-- ==== Sys2Proof/Word.lean ====
section
/-! DEFINITION. The word types of the Corbala 4120 and the saturating count.

Multi-byte wire fields are 16 bits, most status fields 8 (spec 01 section 1.2). Measured quantities
and counts with a stated maximum are `Nat`; values the spec wraps "mod 16", "mod 256" or "mod 65536"
are bit vectors, whose arithmetic wraps by itself (spec 00 section 7, Arithmetic). -/

namespace Sys2Proof

/-- One byte of a frame or of the setting block. -/
abbrev Byte := BitVec 8

/-- A two-byte field: a die tag, an allowance, a wire figure. -/
abbrev Half := BitVec 16

/-- "Saturating": a count stops at its stated maximum instead of wrapping (spec 00 section 7). -/
def satAdd (top n k : Nat) : Nat := min top (n + k)

/-- A timer of the die: the clock at which it started, or none while it is stopped. -/
abbrev Timer := Option Nat

end Sys2Proof
end

