-- ==== Sys2Proof/Syntax.lean ====
section
/-! DEFINITION. The commands of the Corbala 4120: one constructor of `Instr` for each row of
spec/opcode_table.json, with the notices, targets and readings they carry.

Every command has `dt` first: the microseconds that passed since the command before it (log 3). -/

namespace Sys2Proof

/-- The role of a die (R173). SERVICE is a role of adapters alone and has no die. -/
inductive Role where
  | handle | pack | dock
  deriving DecidableEq, Repr

/-- The sender of a state notice, profile or reply, as its frame names it (R3): tag, sequence, U and D. -/
structure Sender where
  tag : Half
  seq : BitVec 4
  urgent : Bool
  doze : Bool
  deriving DecidableEq, Repr

/-- The condition summary byte of a state notice (R4): level, worst kind, scope. -/
structure Summary where
  level : BitVec 4
  kind : BitVec 2
  scope : BitVec 2
  deriving DecidableEq, Repr

/-- Pack status, kind 1 (spec 01 section 1.2). Enumerated fields keep their raw code. -/
structure PackStatus where
  voltage : Half
  current : Half
  dischargeLimit : Byte
  chargeLimit : Byte
  target : Half
  allowance : Half
  soc : Byte
  temperature : Byte
  summary : Summary
  dsw : BitVec 2
  field : BitVec 3
  csw : Bool
  revision : BitVec 2
  deriving DecidableEq, Repr

/-- Pack profile, kind 2 (spec 01 section 1.2). -/
structure PackProfile where
  cells : BitVec 4
  revision : BitVec 4
  rated : Half
  full : Half
  cycles : Half
  health : Byte
  cellMax : Half
  cellMin : Half
  maxDischarge : Byte
  maxCharge : Byte
  deriving DecidableEq, Repr

/-- Draw, kind 3 (spec 01 section 1.2). -/
structure Draw where
  mode : BitVec 2
  motor : BitVec 3
  trigger : Bool
  head : BitVec 2
  speed : Half
  current : Half
  grant : Half
  demand : Half
  level : BitVec 4
  boost : BitVec 4
  summary : Summary
  deriving DecidableEq, Repr

/-- Dock status, kind 4 (spec 01 section 1.2). -/
structure DockStatus where
  run : BitVec 3
  conv : BitVec 2
  voltage : Half
  current : Half
  delivered : Half
  capability : Byte
  runNumber : Byte
  summary : Summary
  deriving DecidableEq, Repr

/-- The address of a probe or clear (R21): target role code and target die tag, 0000h for any tag. -/
structure Target where
  role : BitVec 2
  tag : Half
  deriving DecidableEq, Repr

/-- One dominant pulse of the line as a receiver times it (R163): nanoseconds from the falling edge of
the pulse before it that was not a glitch, and nanoseconds from its own falling edge to its rising edge. -/
structure Pulse where
  gap : Nat
  length : Nat
  deriving DecidableEq, Repr

/-- What the die reads first at the end of start-up (R173, "takes the first readings"): the thermistor
TH0 in degrees Celsius, the bus voltage in 10 mV units, the head-present sense, the piezo comparator
level and the contact sense. A role uses those its blocks have. -/
structure FirstReadings where
  temperature : Int
  busVoltage : Nat
  headPresent : Bool
  comparator : Bool
  contact : Bool
  deriving DecidableEq, Repr

/-- The three speeds of the event "the speed falls below" (R43), in rpm. -/
inductive SpeedMark where
  | below12000 | below3000 | below1000
  deriving DecidableEq, Repr

/-- The 79 commands of spec/opcode_table.json. -/
inductive Instr where
  /-- R173. The supply rises from below the retention level: the straps, the die tag and the setting block read. -/
  | powerOnReset (dt : Nat) (straps : BitVec 2) (tag : Half) (block : List Byte)
  /-- R176. The supply recovers above the retention level: the die tag and the setting block read again. -/
  | supplyDipReset (dt : Nat) (tag : Half) (block : List Byte)
  /-- R173. Start-up completes, with the first readings. -/
  | endOfStartUp (dt : Nat) (first : FirstReadings)
  /-- R44. The 20 ms phase watch ends: the trigger's filtered level. -/
  | phaseWatchEnd (dt : Nat) (pressed : Bool)
  /-- R164. Quiet time is reached: the pulses of the frame it ends, or none (log 6). -/
  | quietTime (dt : Nat) (received : Option (List Pulse))
  /-- R170. A received frame failed a reception check. -/
  | frameRejected (dt : Nat)
  /-- R14. A pack status passed every reception check. -/
  | packStatusAccepted (dt : Nat) (from_ : Sender) (notice : PackStatus)
  /-- R15. A pack profile passed every reception check. -/
  | packProfileAccepted (dt : Nat) (from_ : Sender) (notice : PackProfile)
  /-- R14. A draw passed every reception check. -/
  | drawAccepted (dt : Nat) (from_ : Sender) (notice : Draw)
  /-- R14. A dock status passed every reception check. -/
  | dockStatusAccepted (dt : Nat) (from_ : Sender) (notice : DockStatus)
  /-- R21. A probe passed every reception check. -/
  | probe (dt : Nat) (from_ : Sender) (target : Target) (record : BitVec 4) (index : Byte)
  /-- R22. A clear with action 1. -/
  | clearCounters (dt : Nat) (from_ : Sender) (target : Target)
  /-- R172. A clear with action 2. -/
  | clearAndFreeze (dt : Nat) (from_ : Sender) (target : Target)
  /-- R172. A clear with action 3. -/
  | unfreezeCounters (dt : Nat) (from_ : Sender) (target : Target)
  /-- R22. A clear with action 4. -/
  | clearChargeHistory (dt : Nat) (from_ : Sender) (target : Target)
  /-- R142. A clear with action 5. -/
  | serviceRelease (dt : Nat) (from_ : Sender) (target : Target)
  /-- R2. A reply of another station passed every reception check. -/
  | replyReceived (dt : Nat) (from_ : Sender)
  /-- R1. A frame of unknown kind passed every other check. -/
  | unknownKindFrame (dt : Nat) (from_ : Sender)
  /-- R167. The slot wait of a normal request ends. -/
  | slotWaitExpiry (dt : Nat)
  /-- R168. The die's frame lost contention. -/
  | contentionLost (dt : Nat)
  /-- R162. The die's frame was sent whole. -/
  | sentWhole (dt : Nat)
  /-- R8. 5 ms passed since a state notice was sent whole. -/
  | holdOffEnd (dt : Nat)
  /-- R165. The die's 1 ms wake pulse ends. -/
  | wakePulseSent (dt : Nat)
  /-- R165. A dominant stretch of 400 us to below 5 ms, inside a frame or not. -/
  | wakePulseReceived (dt : Nat) (insideFrame : Bool)
  /-- R166. The line has been dominant for 5 ms. -/
  | lineStuck (dt : Nat)
  /-- R166. The line has been recessive for 1 ms after a stuck period. -/
  | lineStuckClear (dt : Nat)
  /-- R179. A pulse on the line has lasted 2 us. -/
  | lineWake (dt : Nat)
  /-- R8. The 50 ms publish timer expires. -/
  | publishPeriodExpiry (dt : Nat)
  /-- R31. The 10 ms budget timer expires: the latest bus voltage in 10 mV units. -/
  | budgetPeriodExpiry (dt : Nat) (busVoltage : Nat)
  /-- R38. The 100 ms dock timer expires: the dock thermistor. -/
  | dockPeriodExpiry (dt : Nat) (temperature : Int)
  /-- R104. The pack thermistor is read. -/
  | packTemperatureReading (dt : Nat) (temperature : Int)
  /-- R44. The filtered trigger changes to pressed. -/
  | triggerPress (dt : Nat)
  /-- R62. The filtered trigger changes to released. -/
  | triggerRelease (dt : Nat)
  /-- R46. The 100 ms wake wait timer expires. -/
  | wakeWaitExpiry (dt : Nat)
  /-- R48. The 50 ms align timer expires. -/
  | alignTimerExpiry (dt : Nat)
  /-- R50. The 400 ms ramp timer expires without lock. -/
  | rampTimerExpiry (dt : Nat)
  /-- R50. The 500 ms retry timer expires. -/
  | retryTimerExpiry (dt : Nat)
  /-- R55. A back-EMF crossing arrives. -/
  | zeroCrossing (dt : Nat)
  /-- R55. Twice the expected interval passed without a valid crossing. -/
  | crossingTimeout (dt : Nat)
  /-- R43. The speed falls below a mark. -/
  | speedFallsBelow (dt : Nat) (mark : SpeedMark)
  /-- R53. The 10 ms setpoint step timer expires. -/
  | setpointStepExpiry (dt : Nat)
  /-- R54. A bus current sample, in mA. -/
  | busCurrentSample (dt : Nat) (current : Nat)
  /-- R57. The 40 A comparator trips. -/
  | motorOvercurrentTrip (dt : Nat)
  /-- R58. The gate drivers confirm the bridge off. -/
  | bridgeOffConfirmation (dt : Nat)
  /-- R64. The handle thermistor is read. -/
  | handleTemperatureReading (dt : Nat) (temperature : Int)
  /-- R65. The filtered mode button is pressed. -/
  | modePress (dt : Nat)
  /-- R66. The filtered head-present sense changes. -/
  | headPresentChange (dt : Nat) (present : Bool)
  /-- R67. A head current sample, in 10 mA units. -/
  | headCurrentSample (dt : Nat) (current : Nat)
  /-- R67. The jam timer reaches 500 ms. -/
  | jamDetected (dt : Nat)
  /-- R66. The 2 s jam-off timer expires. -/
  | jamOffTimerExpiry (dt : Nat)
  /-- R73. The 50 ms window closes. -/
  | windowExpiry (dt : Nat)
  /-- R71. The piezo comparator crosses above its threshold. -/
  | risingCrossing (dt : Nat)
  /-- R71. The 200 us dead time ends. -/
  | deadTimeExpiry (dt : Nat)
  /-- R71. The piezo comparator falls below its threshold. -/
  | comparatorFall (dt : Nat)
  /-- R89. The sweep timer expires. -/
  | sweepTimerExpiry (dt : Nat)
  /-- R89. A sweep completes: the cell voltages in mV, cell 1 first. -/
  | sweepCompletion (dt : Nat) (voltages : List Nat)
  /-- R91. A pack current sample, in mA, positive in the discharge direction. -/
  | currentSample (dt : Nat) (current : Int)
  /-- R102. The overdraw timer reaches 500 ms. -/
  | overdrawTimerExpiry (dt : Nat)
  /-- R102. The 2 s recovery timer expires. -/
  | overdrawRecoveryExpiry (dt : Nat)
  /-- R103. The short comparator trips. -/
  | shortTrip (dt : Nat)
  /-- R96. The 250 ms shed timer expires. -/
  | shedTimerExpiry (dt : Nat)
  /-- R117. The 2 s grace timer expires. -/
  | graceTimerExpiry (dt : Nat)
  /-- R112. The filtered gauge button is pressed. -/
  | gaugePress (dt : Nat)
  /-- R112. The 3 s gauge display timer expires. -/
  | gaugeDisplayExpiry (dt : Nat)
  /-- R112. The 2 Hz blink of the PACK gauge display toggles. -/
  | gaugeBlinkStep (dt : Nat)
  /-- R122. The filtered contact sense rises. -/
  | csRise (dt : Nat)
  /-- R122. The filtered contact sense falls. -/
  | csFall (dt : Nat)
  /-- R126. A dock output sample: output voltage in mV, output current in mA, input voltage in mV. -/
  | outputSample (dt : Nat) (vout : Nat) (iout : Nat) (vin : Nat)
  /-- R127. The 30 s starve timer expires. -/
  | starveTimerExpiry (dt : Nat)
  /-- R133. The 5 s supply-weak recovery timer expires. -/
  | supplyWeakRecoveryExpiry (dt : Nat)
  /-- R135. A boundary of the dock LED's pattern. -/
  | dockLedStep (dt : Nat)
  /-- R155. A pulse, gap or rest boundary of the playing pattern. -/
  | patternStep (dt : Nat)
  /-- R156. The envelope step timer expires. -/
  | envelopeStepExpiry (dt : Nat)
  /-- R157. The click timer expires. -/
  | clickTimerExpiry (dt : Nat)
  /-- R161. The 2 Hz blink of the HANDLE gauge LEDs toggles. -/
  | handleGaugeBlinkStep (dt : Nat)
  /-- R177. The idle timer expires. -/
  | idleTimerExpiry (dt : Nat)
  /-- R167. Another station's frame begins after quiet time. -/
  | frameBegins (dt : Nat)
  /-- R176. The supply falls below its run level, or below the retention level. -/
  | supplyFall (dt : Nat) (belowRetention : Bool)
  /-- R49. In RAMP the drive commutates on its own timing. -/
  | rampCommutation (dt : Nat)
  deriving DecidableEq, Repr

end Sys2Proof
end

