-- ==== Sys2Proof/Decode.lean ====
section
/-! DEFINITION. Words that spell commands: none, since no row of spec/opcode_table.json gives bits. -/

namespace Sys2Proof

/-- The command that a word of `nbits` bits spells. The table gives no row any bits, so no word spells one. -/
def decodeTableWord (_nbits _w : Nat) : Option Instr := none

end Sys2Proof
end

