-- ==== Sys2Proof/Config.lean ====
section
/-! DEFINITION. What one die is configured with (the setting block's fields, R175) and the free values:
what the spec leaves open, as constants with no body. -/

namespace Sys2Proof

/-- The common part of the setting block, bytes 0 to 13 (R175). -/
structure CommonSettings where
  mask0 : Half
  mask1 : Half
  mask2 : Half
  matchMask : Half
  matchCompare : Half
  dozeTime : Nat
  mute : Bool
  envelopeLong : Bool
  clickLong : Bool
  deriving DecidableEq, Repr

/-- The HANDLE part of the setting block (R175). Speeds in 100 rpm units, powers in dW. -/
structure HandleSettings where
  polePairs : Nat
  ecoSpeed : Nat
  boostSpeed : Nat
  autoSpeedBase : Nat
  autoSpeedStep : Nat
  bandBase : Nat
  bandLimit : Nat
  jamThreshold : Nat
  ecoCap : Nat
  boostCap : Nat
  autoBase : Nat
  autoStep : Nat
  startPower : Nat
  reserve : Nat
  vFloor : Nat
  limp : Nat
  thresholds : List Nat
  hysteresis : Nat
  t0 : Nat
  tk : Nat
  decayLong : Bool
  deriving DecidableEq, Repr

/-- The PACK part of the setting block (R175). -/
structure PackSettings where
  cellCount : Nat
  cellMax : Nat
  cellMin : Nat
  vSoft : Nat
  tCold : Int
  tHot1 : Int
  tHot2 : Int
  tChgLow : Int
  tChgHigh : Int
  rated : Nat
  maxDischarge : Nat
  maxCharge : Nat
  grantStep : Nat
  iTerm : Nat
  shortThreshold : Nat
  reserve : Nat
  balanceThreshold : Nat
  deriving DecidableEq, Repr

/-- The DOCK part of the setting block (R175). -/
structure DockSettings where
  iDockSet : Nat
  vMax : Nat
  tD1 : Int
  tD2 : Int
  supplyWeak : Nat
  strict : Bool
  deriving DecidableEq, Repr

/-- The settings in use. A die reads the part of its own role; the parts of the other roles hold their
defaults and nothing reads them. -/
structure Settings where
  common : CommonSettings
  handle : HandleSettings
  pack : PackSettings
  dock : DockSettings
  deriving DecidableEq, Repr

/-- DESIGN CHOICE, log 10 (safe: free). The speed reading of two valid crossings with no time between
them, by pole pairs: R43 divides by the interval and states no reading for 0. -/
opaque Config.speedOfNoInterval : Nat → Nat

/-- DESIGN CHOICE, log 10 (safe: free). The expected crossing interval in microseconds, by pole pairs,
while the speed reading is 0: R55 takes "the interval of the present speed reading" and R43 divides by it. -/
opaque Config.intervalAtRest : Nat → Nat

/-- DESIGN CHOICE, log 11 (safe: free). What a two-byte wire field holds for a figure above 65535. -/
opaque Config.overField16 : Nat → Half

/-- DESIGN CHOICE, log 11 (safe: free). What a one-byte wire field holds for a figure above 255. -/
opaque Config.overField8 : Nat → Byte

/-- DESIGN CHOICE, log 21 (safe: free). The allowance that grant tests which never fail leave, by the allowance they began
with and the grant step: R120 makes the test "until it fails" and states no allowance for one that cannot. -/
opaque Config.allowanceWithoutEnd : Half → Nat → Half

end Sys2Proof
end

