-- ==== Sys2Proof/Machine/Codes.lean ====
section
/-! DEFINITION. The condition code table (R148) and the patterns of announcements (R155, R156). -/

namespace Sys2Proof.Machine

/-- The condition codes (R148). -/
inductive Code where
  | settingsInvalid | lineStuck | roleClash | lineCrowded
  | busLow | supplyLost | powerLimited | startFail | lockLost | motorOvercurrent
  | handleHot | handleOverheat | brushJam | dirtSensorFault | packTripped | packLost
  | cellHigh | cellLowWarn | cellLow | overdraw | short | packHot
  | chargeTempRefused | cellImbalance | chargeOverrun
  | dockHot | dockOverheat | outputOvervoltage | supplyWeak | profileMissing
  deriving DecidableEq, Repr

/-- The condition kinds, in rising precedence (R143). -/
inductive Kind where
  | trim | hold | trip
  deriving DecidableEq, Repr

/-- The scope of a PACK record (R136). -/
inductive Scope where
  | none | discharge | charge | both
  deriving DecidableEq, Repr

/-- The blocks that own causes (R148). -/
inductive Block where
  | ssc | liu | pv | bgu | mdu | dsu | cdu | cmu | ccu
  deriving DecidableEq, Repr

/-- The number of a code, its identity in a condition record reply (R148). -/
def Code.number : Code → Nat
  | .settingsInvalid => 1 | .lineStuck => 2 | .roleClash => 3 | .lineCrowded => 4
  | .busLow => 16 | .supplyLost => 17 | .powerLimited => 18 | .startFail => 19 | .lockLost => 20
  | .motorOvercurrent => 21 | .handleHot => 22 | .handleOverheat => 23 | .brushJam => 24
  | .dirtSensorFault => 25 | .packTripped => 26 | .packLost => 27
  | .cellHigh => 32 | .cellLowWarn => 33 | .cellLow => 34 | .overdraw => 35 | .short => 36
  | .packHot => 37 | .chargeTempRefused => 38 | .cellImbalance => 39 | .chargeOverrun => 40
  | .dockHot => 48 | .dockOverheat => 49 | .outputOvervoltage => 50 | .supplyWeak => 51
  | .profileMissing => 52

/-- Whether a role has a code: numbers 1 to 4 are common, 16 to 27 HANDLE, 32 to 40 PACK, 48 to 52 DOCK (R148). -/
def Code.inRole (c : Code) : Role → Bool
  | .handle => decide (c.number ≤ 27)
  | .pack => decide (c.number ≤ 4) || (decide (32 ≤ c.number) && decide (c.number ≤ 40))
  | .dock => decide (c.number ≤ 4) || decide (48 ≤ c.number)

/-- The kind of a code at a role (R148). SETTINGS_INVALID is a TRIP at a PACK and a TRIM elsewhere. -/
def Code.kind (c : Code) (r : Role) : Kind :=
  match c with
  | .settingsInvalid => if r = .pack then .trip else .trim
  | .lineStuck => .hold | .roleClash => .hold | .lineCrowded => .trim
  | .busLow => .trim | .supplyLost => .hold | .powerLimited => .trim | .startFail => .trip
  | .lockLost => .hold | .motorOvercurrent => .trip | .handleHot => .trim | .handleOverheat => .hold
  | .brushJam => .trim | .dirtSensorFault => .trim | .packTripped => .hold | .packLost => .trim
  | .cellHigh => .trip | .cellLowWarn => .trim | .cellLow => .trip | .overdraw => .hold
  | .short => .trip | .packHot => .hold | .chargeTempRefused => .trim | .cellImbalance => .trim
  | .chargeOverrun => .trip
  | .dockHot => .trim | .dockOverheat => .hold | .outputOvervoltage => .trip | .supplyWeak => .trim
  | .profileMissing => .trim

/-- The level of a code at a role, 1 to 15 (R148). -/
def Code.level (c : Code) (r : Role) : Nat :=
  match c with
  | .settingsInvalid => if r = .pack then 15 else 3
  | .lineStuck => 8 | .roleClash => 8 | .lineCrowded => 1
  | .busLow => 4 | .supplyLost => 11 | .powerLimited => 3 | .startFail => 12 | .lockLost => 9
  | .motorOvercurrent => 14 | .handleHot => 5 | .handleOverheat => 10 | .brushJam => 7
  | .dirtSensorFault => 2 | .packTripped => 13 | .packLost => 6
  | .cellHigh => 13 | .cellLowWarn => 5 | .cellLow => 13 | .overdraw => 11 | .short => 15
  | .packHot => 10 | .chargeTempRefused => 4 | .cellImbalance => 3 | .chargeOverrun => 12
  | .dockHot => 5 | .dockOverheat => 10 | .outputOvervoltage => 14 | .supplyWeak => 3
  | .profileMissing => 2

/-- The scope of a code at a role: a PACK's HOLD and TRIP codes alone have one (R148, R99). -/
def Code.scope (c : Code) (r : Role) : Scope :=
  if r = .pack then
    match c with
    | .settingsInvalid => .both | .packHot => .both
    | .lineStuck => .charge | .roleClash => .charge | .cellHigh => .charge | .chargeOverrun => .charge
    | .cellLow => .discharge | .overdraw => .discharge | .short => .discharge
    | _ => .none
  else .none

/-- The block that owns a code's cause (R148). -/
def Code.source : Code → Block
  | .settingsInvalid => .ssc | .lineStuck => .liu | .roleClash => .pv | .lineCrowded => .liu
  | .busLow => .bgu | .supplyLost => .bgu | .powerLimited => .bgu | .startFail => .mdu
  | .lockLost => .mdu | .motorOvercurrent => .mdu | .handleHot => .mdu | .handleOverheat => .mdu
  | .brushJam => .mdu | .dirtSensorFault => .dsu | .packTripped => .cdu | .packLost => .mdu
  | .cellHigh => .cmu | .cellLowWarn => .cmu | .cellLow => .cmu | .overdraw => .cmu | .short => .cmu
  | .packHot => .cmu | .chargeTempRefused => .bgu | .cellImbalance => .cmu | .chargeOverrun => .cmu
  | .dockHot => .ccu | .dockOverheat => .ccu | .outputOvervoltage => .ccu | .supplyWeak => .ccu
  | .profileMissing => .ccu

/-- A scope covers discharge (R94). -/
def Scope.discharges : Scope → Bool
  | .discharge => true | .both => true | _ => false

/-- A scope covers charge (R98). -/
def Scope.charges : Scope → Bool
  | .charge => true | .both => true | _ => false

/-- What an announcement is for: a code or a status event (R151). -/
inductive Item where
  | code (c : Code)
  | docked
  | chargeComplete
  deriving DecidableEq, Repr

/-- A pattern record (R155). `volume` is not used with the envelope on. `repeats` is none for "until clear". -/
structure Pattern where
  frequency : Nat
  volume : Nat
  envelope : Bool
  pulses : Nat
  pulse : Nat
  gap : Nat
  repeats : Option Nat
  deriving DecidableEq, Repr

/-- The eight patterns (R155), frequency in Hz, lengths in ms. -/
def patternA : Pattern := ⟨4000, 1, false, 4, 80, 80, none⟩
/-- Pattern B (R155). -/
def patternB : Pattern := ⟨3600, 1, false, 3, 150, 100, some 3⟩
/-- Pattern C (R155). -/
def patternC : Pattern := ⟨2800, 1, true, 2, 200, 150, some 2⟩
/-- Pattern D (R155). -/
def patternD : Pattern := ⟨2400, 1, true, 2, 120, 120, some 1⟩
/-- Pattern E (R155). -/
def patternE : Pattern := ⟨2000, 1, true, 1, 300, 200, some 1⟩
/-- Pattern F (R155). -/
def patternF : Pattern := ⟨1600, 3, false, 1, 60, 60, some 1⟩
/-- Pattern G (R155). -/
def patternG : Pattern := ⟨3200, 1, true, 3, 100, 100, some 1⟩
/-- Pattern H (R155). -/
def patternH : Pattern := ⟨1200, 1, true, 2, 250, 250, some 1⟩

/-- The pattern of a code, or none (R155, second table). -/
def Code.pattern : Code → Option Pattern
  | .motorOvercurrent => some patternA | .short => some patternA | .outputOvervoltage => some patternA
  | .settingsInvalid => some patternB | .startFail => some patternB | .packTripped => some patternB
  | .cellHigh => some patternB | .cellLow => some patternB | .chargeOverrun => some patternB
  | .lineStuck => some patternC | .roleClash => some patternC | .handleOverheat => some patternC
  | .overdraw => some patternC | .packHot => some patternC | .dockOverheat => some patternC
  | .supplyLost => some patternD | .lockLost => some patternD | .brushJam => some patternD
  | .handleHot => some patternE | .dirtSensorFault => some patternE | .cellLowWarn => some patternE
  | .dockHot => some patternE
  | .packLost => some patternF | .chargeTempRefused => some patternF | .cellImbalance => some patternF
  | .supplyWeak => some patternF
  | .lineCrowded => none | .busLow => none | .powerLimited => none | .profileMissing => none

/-- The pattern of an item; DOCKED has G and CHARGE_COMPLETE H (R151, R155). -/
def Item.pattern : Item → Option Pattern
  | .code c => c.pattern
  | .docked => some patternG
  | .chargeComplete => some patternH

end Sys2Proof.Machine
end

