-- ==== Sys2Proof/Machine/Settings.lean ====
section
/-! DEFINITION. Reading and checking the setting block (R174, R175). -/

namespace Sys2Proof.Machine

/-- The built-in defaults of the setting table (R175). -/
def defaultSettings : Settings where
  common := ⟨0x00FF#16, 0x0F0F#16, 0x3333#16, 0x0000#16, 0x0000#16, 100, false, false, false⟩
  handle := ⟨2, 600, 1050, 780, 30, 1199, 100, 250, 800, 2600, 1500, 150, 120, 150, 900, 40,
    [40, 120, 240, 400, 640, 960, 1400], 60, 120, 24, false⟩
  pack := ⟨7, 4200, 3000, 3300, -10, 50, 60, 5, 45, 4000, 200, 125, 100, 100, 600, 150, 20⟩
  dock := ⟨30, 42000, 70, 85, 17000, true⟩

/-- One shift of the CRC-16 register: left by one, with 1021h when the outgoing top bit was 1 (R174). -/
def crc16Shift (r : Half) : Half :=
  if r.getMsbD 0 then (r <<< 1) ^^^ 0x1021#16 else r <<< 1

/-- One byte into the CRC-16 register: by exclusive-or into the high byte, then eight shifts (R174). -/
def crc16Byte (r : Half) (b : Byte) : Half :=
  let r := r ^^^ ((b.setWidth 16) <<< 8)
  crc16Shift (crc16Shift (crc16Shift (crc16Shift
    (crc16Shift (crc16Shift (crc16Shift (crc16Shift r)))))))

/-- CRC-16 over bytes in order, from FFFFh, with no final inversion (R174). -/
def crc16 (bytes : List Byte) : Half := bytes.foldl crc16Byte 0xFFFF#16

/-- Byte `i` of the block. -/
def byteAt (b : List Byte) (i : Nat) : Byte := b.getD i 0#8

/-- A one-byte unsigned field. -/
def field8 (b : List Byte) (i : Nat) : Nat := (byteAt b i).toNat

/-- A two-byte unsigned field, high byte first. -/
def field16 (b : List Byte) (i : Nat) : Nat := field8 b i * 256 + field8 b (i + 1)

/-- A two-byte field as bits, high byte first. -/
def fieldBits (b : List Byte) (i : Nat) : Half := (byteAt b i) ++ (byteAt b (i + 1))

/-- A temperature: one byte in two's complement. -/
def fieldTemp (b : List Byte) (i : Nat) : Int := (byteAt b i).toInt

/-- A field of two values holds the second (R175). -/
def fieldFlag (b : List Byte) (i : Nat) : Bool := field8 b i == 1

/-- The stored CRC matches (R174): bytes 62 and 63, high byte first, over bytes 0 to 61. -/
def blockCrcOk (b : List Byte) : Bool := b.length == 64 && crc16 (b.take 62) == fieldBits b 62

/-- A number lies in a range, both ends included. -/
def inRange (lo hi n : Nat) : Bool := decide (lo ≤ n) && decide (n ≤ hi)

/-- A temperature lies in -40 to 125. -/
def tempInRange (t : Int) : Bool := decide (-40 ≤ t) && decide (t ≤ 125)

/-- The common part as the block holds it (R175). -/
def readCommon (b : List Byte) : CommonSettings :=
  ⟨fieldBits b 0, fieldBits b 2, fieldBits b 4, fieldBits b 6, fieldBits b 8, field8 b 10,
    fieldFlag b 11, fieldFlag b 12, fieldFlag b 13⟩

/-- The common part is in range (R175). -/
def commonOk (b : List Byte) : Bool :=
  inRange 4 255 (field8 b 10) && inRange 0 1 (field8 b 11) && inRange 0 1 (field8 b 12)
    && inRange 0 1 (field8 b 13)

/-- The HANDLE part as the block holds it (R175). -/
def readHandle (b : List Byte) : HandleSettings :=
  ⟨field8 b 14, field16 b 15, field16 b 17, field16 b 19, field8 b 21, field16 b 22, field16 b 24,
    field16 b 26, field16 b 28, field16 b 30, field16 b 32, field16 b 34, field16 b 36, field16 b 38,
    field16 b 40, field8 b 42,
    [field16 b 43, field16 b 45, field16 b 47, field16 b 49, field16 b 51, field16 b 53, field16 b 55],
    field8 b 57, field16 b 58, field8 b 60, fieldFlag b 61⟩

/-- The HANDLE part is in range (R175). -/
def handleOk (b : List Byte) : Bool :=
  let h := readHandle b
  inRange 1 4 h.polePairs && inRange 0 1200 h.ecoSpeed && inRange 0 1200 h.boostSpeed
    && inRange 0 1200 h.autoSpeedBase && inRange 0 100 h.autoSpeedStep
    && inRange 100 1199 h.bandBase && inRange 100 1199 h.bandLimit && inRange 1 1000 h.jamThreshold
    && inRange 0 4095 h.ecoCap && inRange 0 4095 h.boostCap && inRange 0 4095 h.autoBase
    && inRange 0 500 h.autoStep && inRange 0 1000 h.startPower && inRange 0 1000 h.reserve
    && inRange 600 2500 h.vFloor && inRange 0 255 h.limp && h.thresholds.all (inRange 0 5100)
    && inRange 0 255 h.hysteresis && inRange 0 1023 h.t0 && inRange 0 255 h.tk
    && inRange 0 1 (field8 b 61)

/-- The PACK part as the block holds it (R175). -/
def readPack (b : List Byte) : PackSettings :=
  ⟨field8 b 14, field16 b 15, field16 b 17, field16 b 19, fieldTemp b 21, fieldTemp b 22,
    fieldTemp b 23, fieldTemp b 24, fieldTemp b 25, field16 b 26, field8 b 28, field8 b 29,
    field16 b 30, field16 b 32, field16 b 34, field16 b 36, field8 b 38⟩

/-- The PACK part is in range (R175). -/
def packOk (b : List Byte) : Bool :=
  let p := readPack b
  inRange 3 8 p.cellCount && inRange 3600 4500 p.cellMax && inRange 2500 3400 p.cellMin
    && inRange 2500 3800 p.vSoft && tempInRange p.tCold && tempInRange p.tHot1 && tempInRange p.tHot2
    && tempInRange p.tChgLow && tempInRange p.tChgHigh && inRange 500 59500 p.rated
    && inRange 1 255 p.maxDischarge && inRange 1 255 p.maxCharge && inRange 10 1000 p.grantStep
    && inRange 20 1000 p.iTerm && inRange 50 1000 p.shortThreshold && inRange 0 1000 p.reserve
    && inRange 0 200 p.balanceThreshold

/-- The DOCK part as the block holds it (R175). -/
def readDock (b : List Byte) : DockSettings :=
  ⟨field8 b 14, field16 b 15, fieldTemp b 17, fieldTemp b 18, field16 b 19, fieldFlag b 21⟩

/-- The DOCK part is in range (R175). -/
def dockOk (b : List Byte) : Bool :=
  let d := readDock b
  inRange 0 255 d.iDockSet && inRange 4000 45000 d.vMax && tempInRange d.tD1 && tempInRange d.tD2
    && inRange 5000 30000 d.supplyWeak && inRange 0 1 (field8 b 21)

/-- The check of the block at a role (R174): the CRC, the common part and the role's part, each field alone. -/
def blockPasses (r : Role) (b : List Byte) : Bool :=
  blockCrcOk b && commonOk b &&
    match r with
    | .handle => handleOk b
    | .pack => packOk b
    | .dock => dockOk b

/-- The settings a die uses (R174): the block's own fields where it passes, the defaults for every field
where it fails. -/
def readSettings (r : Role) (b : List Byte) : Settings :=
  if blockPasses r b then
    match r with
    | .handle => { defaultSettings with common := readCommon b, handle := readHandle b }
    | .pack => { defaultSettings with common := readCommon b, pack := readPack b }
    | .dock => { defaultSettings with common := readCommon b, dock := readDock b }
  else defaultSettings

end Sys2Proof.Machine
end

