-- ==== Sys2Proof/Machine/State.lean ====
section
/-! DEFINITION. The state of one Corbala 4120 die, block by block, and the state after reset.

Each field's default value is its value after either reset; where the spec gives none, the docstring says
DESIGN CHOICE and names the log entry. What a power-on or a supply dip keeps is in Machine/StartUp.lean. -/

namespace Sys2Proof.Machine

/-- Whether the die has supply and its blocks are released (R173, R176; log 5). -/
inductive Power where
  /-- After a reset, before the end of start-up: no block is released. -/
  | starting
  /-- After the end of start-up. -/
  | running
  /-- The supply fell below its run level and retention holds. -/
  | dipped
  /-- The supply fell below the retention level. -/
  | off
  deriving DecidableEq, Repr

/-- The doze state (R177). -/
inductive DozeState where
  | awake | entering | dozing
  deriving DecidableEq, Repr

/-- Start-up controller and setting store, less what stands at the top of `State`. -/
structure Ssc where
  /-- R177. -/
  doze : DozeState := .awake
  /-- R177: runs while the idle condition holds and A is 0. -/
  idleTimer : Timer := none
  /-- R64, R25, R173: the temperature timer of a HANDLE or PACK. -/
  thermTimer : Timer := none
  /-- The model's own: a local wake cause was found inside the present event (R179). -/
  wakeAsked : Bool := false
  /-- The model's own: clock of the latest wake cause found in AWAKE (R179; log 41). -/
  causeAt : Option Nat := none
  deriving DecidableEq, Repr

/-- The three kinds of request of a transmit set, in ascending kind code (R11). -/
inductive SendKind where
  | state | profile | reply
  deriving DecidableEq, Repr

/-- What a renewal mark carries (R12): the urgent mark, and for a reply the record id and index. -/
structure Renewal where
  urgent : Bool
  record : BitVec 4
  index : Byte
  deriving DecidableEq, Repr

/-- A pending request (R11), with its renewal mark while its frame is on the line (R12) and the mark that
it leaves the set at its frame's end (R6, R177). -/
structure Request where
  urgent : Bool
  attempt : Nat
  record : BitVec 4
  index : Byte
  renewal : Option Renewal
  leaves : Bool
  deriving DecidableEq, Repr

/-- The transmit set: at most one pending request of each kind (R11). -/
structure TransmitSet where
  state : Option Request := none
  profile : Option Request := none
  reply : Option Request := none
  deriving DecidableEq, Repr

/-- The contents of an own frame, captured at its first bit (R12). -/
inductive Body where
  | packStatus (n : PackStatus)
  | packProfile (n : PackProfile)
  | draw (n : Draw)
  | dockStatus (n : DockStatus)
  | reply (data : List Byte)
  deriving DecidableEq, Repr

/-- The die's own frame on the line (R3, R7, R11, R12). -/
structure OwnFrame where
  kind : SendKind
  body : Body
  urgent : Bool
  doze : Bool
  seq : BitVec 4
  deriving DecidableEq, Repr

/-- The line as this die's LIU has it (R164 to R168). -/
inductive Line where
  /-- Quiet time is not reached and no frame is being received. -/
  | unsettled
  /-- Quiet time is reached and the line is still recessive. -/
  | quiet
  /-- Another station's frame is in progress; malformed (R163); it woke this station (R179). -/
  | receiving (malformed woke : Bool)
  /-- The die's own frame is on the line. -/
  | sending (f : OwnFrame)
  /-- The die drives its 1 ms wake pulse (R165). -/
  | pulsing
  deriving DecidableEq, Repr

/-- A slot wait (R167): the kind presented, the wait in microseconds and the clock at its start. -/
structure SlotWait where
  kind : SendKind
  micros : Nat
  since : Nat
  deriving DecidableEq, Repr

/-- Line interface unit (chapters 1 and 9). -/
structure Liu where
  line : Line := .unsettled
  waiting : Option SlotWait := none
  /-- R165. -/
  wakeRequest : Bool := false
  /-- R11, R12. -/
  tx : TransmitSet := {}
  /-- R8: the 5 ms hold-off of the next non-urgent state notice. Stopped after reset: DEDUCED, log 9. -/
  holdOff : Timer := none
  /-- R7: one sequence counter for each kind sent. -/
  seqState : BitVec 4 := 0
  seqProfile : BitVec 4 := 0
  seqReply : BitVec 4 := 0
  /-- R171: the six traffic counters. -/
  sent : Nat := 0
  lost : Nat := 0
  givenUp : Nat := 0
  accepted : Nat := 0
  rejected : Nat := 0
  matched : Nat := 0
  /-- R172. -/
  frozen : Bool := false
  /-- R113: the last pack status sent whole since start-up. -/
  lastPackStatus : Option PackStatus := none
  deriving DecidableEq, Repr

/-- The freshness states of a peer entry (R13). -/
inductive Freshness where
  | absent | fresh | stale | lost | dozing
  deriving DecidableEq, Repr

/-- A peer entry (R13), for a role whose state notice has type `α`. -/
structure PeerEntry (α : Type) where
  tag : Option Half := none
  state : Freshness := .absent
  age : Nat := 0
  /-- Last sequence of the role's state notice. -/
  lastSeq : Option (BitVec 4) := none
  /-- Last sequence of the pack profile (PACK entry). -/
  lastProfileSeq : Option (BitVec 4) := none
  missed : Nat := 0
  duplicates : Nat := 0
  clashes : Nat := 0
  stored : Option α := none
  deriving DecidableEq, Repr

/-- A valid profile slot (R13): the profile and the tag it came from. -/
structure ProfileSlot where
  profile : PackProfile
  tag : Half
  deriving DecidableEq, Repr

/-- Peer view (chapter 1). A die keeps the entries of the two roles other than its own; the entry of its own
role stays as it is at reset. -/
structure PeerView where
  /-- R8. -/
  publishTimer : Timer := none
  /-- R10. -/
  profileCount : Nat := 0
  pack : PeerEntry PackStatus := {}
  handle : PeerEntry Draw := {}
  dock : PeerEntry DockStatus := {}
  /-- R13: none is invalid. -/
  slot : Option ProfileSlot := none
  behind : Bool := false
  /-- R2. -/
  ownClash : Nat := 0
  /-- R18. -/
  quietCount : Nat := 0
  deriving DecidableEq, Repr

/-- The phase of a condition record (R136). -/
inductive Phase where
  | active | latched
  deriving DecidableEq, Repr

/-- A condition record (R136). Level, kind, scope and source follow from the code and the role (R148). -/
structure Record where
  code : Code
  stamp : Nat
  count : Nat
  phase : Phase
  deriving DecidableEq, Repr

/-- Where a playing announcement stands within a repeat (R150). -/
inductive PlayPhase where
  | pulse | gap | rest
  deriving DecidableEq, Repr

/-- The playing announcement (R150): its item and level, and its place: repeat and pulse counted from 0. -/
structure Playing where
  item : Item
  level : Nat
  rep : Nat
  pulse : Nat
  phase : PlayPhase
  deriving DecidableEq, Repr

/-- A suspended or waiting announcement (R150): item, level, removed mark. -/
structure Waiting where
  item : Item
  level : Nat
  removed : Bool
  deriving DecidableEq, Repr

/-- The gauge LEDs of a HANDLE or PACK (R112, R161): how many are lit, whether they blink, and the blink's phase. -/
structure GaugeLeds where
  lit : Nat := 0
  blinking : Bool := false
  phaseOn : Bool := false
  deriving DecidableEq, Repr

/-- Tone and indicator unit (chapter 8). -/
structure Tiu where
  /-- The announce level A (R150). -/
  level : Nat := 0
  playing : Option Playing := none
  /-- R155. -/
  patternTimer : Timer := none
  /-- The nesting stack, TOP FIRST (R150). -/
  stack : List Waiting := []
  /-- The pending summary, highest level first, at most one entry a level (R150). -/
  waiting : List Waiting := []
  /-- The envelope's volume level within a pulse (R150, R156). -/
  volume : Option Nat := none
  envelopeTimer : Timer := none
  /-- The click one-shot (R157): none is silent. -/
  click : Timer := none
  gauge : GaugeLeds := {}
  /-- R112: the 3 s display of a PACK. -/
  displayTimer : Timer := none
  /-- R135: the place in the dock LED's pattern. -/
  dockLedStep : Nat := 0
  deriving DecidableEq, Repr

/-- HANDLE budget (R31). `pMode` and `vbus` at reset: DESIGN CHOICE 0, log 8. -/
structure HandleBudget where
  timer : Timer := none
  pGrant : Nat := 0
  pMode : Nat := 0
  iMot : Nat := 0
  belowFloor : Nat := 0
  limited : Nat := 0
  equal : Nat := 0
  vbus : Nat := 0
  deriving DecidableEq, Repr

/-- PACK budget (R25). `temp` at reset: DESIGN CHOICE 0, log 8. -/
structure PackBudget where
  fV : Nat := 0
  fT : Nat := 0
  fC : Nat := 0
  iDis : Nat := 0
  dischargeLimit : Nat := 0
  chargeLimit : Nat := 0
  target : Nat := 0
  temp : Int := 0
  deriving DecidableEq, Repr

/-- DOCK budget (R38). `temp` at reset: DESIGN CHOICE 0, log 8. -/
structure DockBudget where
  timer : Timer := none
  fD : Nat := 0
  cap : Nat := 0
  iTgt : Nat := 0
  iSet : Nat := 0
  vCeil : Nat := 0
  temp : Int := 0
  deriving DecidableEq, Repr

/-- The coast aims (R42). -/
inductive Aim where
  | stop | retry | hold | catch_ | settle
  deriving DecidableEq, Repr

/-- The motor state (R42), with the coast aim in COAST. -/
inductive Motor where
  | stopped | align | ramp | run
  | coast (aim : Aim)
  | held
  deriving DecidableEq, Repr

/-- The suction modes (R42). -/
inductive Mode where
  | eco | auto | boost
  deriving DecidableEq, Repr

/-- Motor drive unit (R42). -/
structure Mdu where
  motor : Motor := .stopped
  trigger : Bool := false
  mode : Mode := .auto
  speed : Nat := 0
  /-- DESIGN CHOICE 0 before the end of start-up, log 8. -/
  sTgt : Nat := 0
  sCur : Nat := 0
  drive : Nat := 0
  validCount : Nat := 0
  missCount : Nat := 0
  failedStarts : Nat := 0
  /-- Clocks of lock loss, oldest first (R56). -/
  lockLoss : List Nat := []
  wakeWait : Timer := none
  alignTimer : Timer := none
  rampTimer : Timer := none
  retryTimer : Timer := none
  setpointTimer : Timer := none
  /-- R44: the 20 ms phase-sense watch. -/
  phaseWatch : Timer := none
  /-- Clock of the previous valid crossing (R43). -/
  lastValid : Option Nat := none
  /-- Clock of the previous commutation (R49, R55). -/
  lastCommutation : Option Nat := none
  /-- The latest bus current sample, mA (R54). DESIGN CHOICE 0 at reset, log 8. -/
  busCurrent : Nat := 0
  /-- The bridge is confirmed off (R58). -/
  bridgeOff : Bool := true
  deriving DecidableEq, Repr

/-- The head output states (R42). -/
inductive HeadOutput where
  | off | on | jamOff | lockedOff
  deriving DecidableEq, Repr

/-- The floor-head output (R42, R66). `present` and `current` at reset: DESIGN CHOICE, log 8. -/
structure Head where
  output : HeadOutput := .off
  present : Bool := false
  current : Nat := 0
  jamTimer : Timer := none
  jamOffTimer : Timer := none
  /-- Clocks of jams, oldest first (R67). -/
  jamHistory : List Nat := []
  deriving DecidableEq, Repr

/-- Dirt sensing unit (R69). -/
structure Dsu where
  windowTimer : Timer := none
  count : Nat := 0
  deadTime : Timer := none
  pinned : Bool := false
  /-- DESIGN CHOICE 0 before the end of start-up, log 8. -/
  threshold : Nat := 0
  startSpeed : Nat := 0
  disturbed : Bool := true
  /-- Newest first (R75). -/
  ring : List Nat := []
  unsettled : Nat := 0
  score : Nat := 0
  level : Nat := 0
  boost : Nat := 0
  decay : Nat := 0
  quiet : Nat := 0
  pinnedCount : Nat := 0
  tally : Nat := 0
  /-- The comparator output is above the threshold (R71). DESIGN CHOICE false at reset, log 8. -/
  above : Bool := false
  deriving DecidableEq, Repr

/-- A cell record (R90). Bleeding is membership of the balance set. -/
structure CellRecord where
  voltage : Nat := 0
  bleedSeconds : Nat := 0
  bleedMillis : Nat := 0
  highest : Option Nat := none
  lowest : Option Nat := none
  deriving DecidableEq, Repr

/-- The discharge switch (R94). -/
inductive Dsw where
  | on | cutPending | off
  deriving DecidableEq, Repr

/-- Cell monitor unit, less gauge and path (chapter 5). `vmin` and `vmax` at reset: DESIGN CHOICE 0, log 8. -/
structure Cmu where
  /-- Cell 1 first. -/
  cells : List CellRecord := []
  /-- R92: cell indices from 1, in the order they joined. -/
  balance : List Nat := []
  sweepTimer : Timer := none
  sweeping : Bool := false
  swept : Bool := false
  lastSweep : Option Nat := none
  vmin : Nat := 0
  vmax : Nat := 0
  current : Int := 0
  currentAt : Nat := 0
  imbalanceTimer : Timer := none
  highCount : Nat := 0
  dsw : Dsw := .off
  /-- The charge switch is closed (R98). -/
  csw : Bool := false
  cswOpenedAt : Nat := 0
  shedTimer : Timer := none
  overdrawTimer : Timer := none
  recoveryTimer : Timer := none
  /-- The model's own (R137, log 40): codes of the TRIPs that a dip kept ACTIVE and that the CMU has not judged since. -/
  kept : List Code := []
  deriving DecidableEq, Repr

/-- The gauge (R107). -/
structure Gauge where
  qRem : Nat := 2000
  frac : Int := 0
  full : Nat := 4000
  health : Nat := 100
  cycles : Nat := 0
  revision : BitVec 4 := 0
  dFull : Nat := 0
  learnArmed : Bool := false
  dCyc : Nat := 0
  warnArmed : Bool := true
  deriving DecidableEq, Repr

/-- The path field (R114). -/
inductive PathField where
  | none | want | accept | full | refuse
  deriving DecidableEq, Repr

/-- The charge path's PACK side (R114). -/
structure PathState where
  field : PathField := .none
  fullFlag : Bool := false
  allowance : Half := 0
  received : Half := 0
  baseAllowance : Half := 0
  baseReceived : Half := 0
  notedRun : Option Byte := none
  fullTimer : Timer := none
  graceTimer : Timer := none
  deriving DecidableEq, Repr

/-- The run states (R121). -/
inductive RunState where
  | undocked | idle | offer | active | suspended | rest
  deriving DecidableEq, Repr

/-- The converter modes (R121). -/
inductive Converter where
  | off | cc | cv
  deriving DecidableEq, Repr

/-- The end causes of a run (R129). -/
inductive EndCause where
  | complete | withdrawn | undocked | packLost | packRestart | starved | dockFault
  deriving DecidableEq, Repr

/-- A record of the charge history (R134). -/
structure RunRecord where
  number : Byte
  cause : EndCause
  delivered : Half
  remainder : Half
  startSoc : Byte
  endSoc : Byte
  peak : Nat
  deriving DecidableEq, Repr

/-- Charge control unit (R121). `run` before the end of start-up and the latest samples at reset: DESIGN CHOICE, log 8. -/
structure Ccu where
  run : RunState := .undocked
  runCounter : Byte := 0
  /-- The number the present or last run took (R125, R126). -/
  runNumber : Byte := 0
  baseline : Half := 0
  delivered : Half := 0
  frac : Nat := 0
  /-- The remaining credit R (R127). -/
  credit : Half := 0
  starveTimer : Timer := none
  startSoc : Byte := 0
  lastSoc : Byte := 0
  peak : Nat := 0
  passMode : Bool := false
  /-- R123: the offer is a strict wait. Clear after reset: DEDUCED, log 9. -/
  strictWait : Bool := false
  conv : Converter := .off
  /-- Oldest first (R134). -/
  history : List RunRecord := []
  weakCount : Nat := 0
  weakTimer : Timer := none
  vout : Nat := 0
  iout : Nat := 0
  vin : Nat := 0
  deriving DecidableEq, Repr

/-- The die. The defaults of the first group are those of `State.reset` (DESIGN CHOICE, log 4: straps 00,
tag 0001h, a setting block programmed with the factory defaults that passes its check). -/
structure State where
  /-- The commands that wait, first in first out. The model's own. -/
  pending : List Instr := []
  power : Power := .starting
  /-- R173: none is an unconfigured die. -/
  role : Option Role := some .handle
  tag : Half := 1
  settings : Settings := defaultSettings
  /-- R173: the check of the setting block failed at the latest start-up. -/
  settingsFailed : Bool := false
  /-- R173, R176: the reset cause is a supply dip. -/
  dipCause : Bool := false
  /-- Microseconds since the end of start-up (log 3). -/
  clock : Nat := 0
  ssc : Ssc := {}
  liu : Liu := {}
  pv : PeerView := {}
  /-- The condition list, head first (R137). -/
  cdu : List Record := []
  tiu : Tiu := {}
  hb : HandleBudget := {}
  pb : PackBudget := {}
  db : DockBudget := {}
  mdu : Mdu := {}
  head : Head := {}
  dsu : Dsu := {}
  cmu : Cmu := {}
  gauge : Gauge := {}
  path : PathState := {}
  ccu : Ccu := {}
  deriving DecidableEq, Repr

/-- The die right after a power-on reset, before the end of start-up. -/
def State.reset : State := {}

/-- Why the machine would stop with a fault. No command of this block faults (log 1). -/
inductive Fault where
  /-- Raised by nothing: every command has an effect or changes nothing. Safe. -/
  | neverRaised
  deriving DecidableEq, Repr

/-- Why a command would be refused. -/
inductive Refusal where
  /-- Raised by an arm of `exec` whose command has no meaning yet; there is none. Safe. -/
  | notModelled (mnemonic : String)
  deriving DecidableEq, Repr

/-- The outcome of a command. -/
abbrev Answer := Host.Outcome State Fault Refusal

end Sys2Proof.Machine
end

