-- ==== Sys2Proof/Machine/Flags.lean ====
section
/-! DEFINITION. The condition list (R136 to R142) and its summary (R4, R145): this block's flags.

Functions on the list alone, at a role `r`; the events they hand on are in Ops.lean and the role files. -/

namespace Sys2Proof.Machine

/-- The record of a code, if the list holds one. -/
def findRecord (l : List Record) (c : Code) : Option Record := l.find? (fun x => x.code == c)

/-- The list holds a record of the code, ACTIVE or LATCHED. -/
def hasRecord (l : List Record) (c : Code) : Bool := l.any (fun x => x.code == c)

/-- The list holds a LATCHED record of the code. -/
def hasLatched (l : List Record) (c : Code) : Bool := l.any (fun x => x.code == c && x.phase == .latched)

/-- The list holds an ACTIVE record of the code. -/
def hasActive (l : List Record) (c : Code) : Bool := l.any (fun x => x.code == c && x.phase == .active)

/-- `x` stands before `y` in the list's order (R137): a higher level, or the same level and an older stamp. -/
def ranksBefore (r : Role) (x y : Record) : Bool :=
  decide (y.code.level r < x.code.level r) ||
    (x.code.level r == y.code.level r && decide (x.stamp < y.stamp))

/-- A new record takes its place (R137): before the first record it ranks before, else last. -/
def insertRecord (r : Role) (x : Record) : List Record → List Record
  | [] => [x]
  | y :: ys => if ranksBefore r x y then x :: y :: ys else y :: insertRecord r x ys

/-- What a raise comes to (R139). -/
inductive RaiseOutcome where
  /-- A new record. -/
  | created
  /-- A LATCHED record returns to ACTIVE. -/
  | reactivated
  /-- An ACTIVE record counts. -/
  | counted
  /-- The role does not have the code (R148). -/
  | notOfRole
  deriving DecidableEq, Repr

/-- The outcome of raising a code at a role (R139, R148). -/
def raiseOutcome (r : Role) (l : List Record) (c : Code) : RaiseOutcome :=
  if c.inRole r then
    match findRecord l c with
    | none => .created
    | some x => if x.phase = .latched then .reactivated else .counted
  else .notOfRole

/-- The list after a raise (R139): a record created, or the present one ACTIVE with its count up by 1. -/
def raiseList (r : Role) (stamp : Nat) (l : List Record) (c : Code) : List Record :=
  if c.inRole r then
    if hasRecord l c then
      l.map (fun x => if x.code = c then { x with phase := .active, count := satAdd 255 x.count 1 } else x)
    else insertRecord r ⟨c, stamp, 1, .active⟩ l
  else l

/-- The list after the removal of a code's record. -/
def removeList (l : List Record) (c : Code) : List Record := l.filter (fun x => x.code != c)

/-- The list after a cause-gone report of a TRIP code (R140): an ACTIVE record becomes LATCHED. -/
def latchList (l : List Record) (c : Code) : List Record :=
  l.map (fun x => if x.code = c then { x with phase := .latched } else x)

/-- The head level: the level of the head record, 0 when the list is empty (R137). -/
def headLevel (r : Role) : List Record → Nat
  | [] => 0
  | x :: _ => x.code.level r

/-- The list holds a record of the kind at the role. -/
def hasKind (r : Role) (l : List Record) (k : Kind) : Bool := l.any (fun x => x.code.kind r == k)

/-- The list holds a HOLD or TRIP whose scope includes discharge (R94). -/
def dischargeHeld (r : Role) (l : List Record) : Bool := l.any (fun x => (x.code.scope r).discharges)

/-- The list holds a HOLD or TRIP whose scope includes charge (R98). -/
def chargeHeld (r : Role) (l : List Record) : Bool := l.any (fun x => (x.code.scope r).charges)

/-- The codes of the LATCHED records, head first. -/
def latchedCodes (l : List Record) : List Code :=
  (l.filter (fun x => x.phase == .latched)).map (fun x => x.code)

/-- The wire code of a kind (R3, R24): 1 TRIM, 2 HOLD, 3 TRIP. -/
def Kind.wire : Kind → BitVec 2
  | .trim => 1 | .hold => 2 | .trip => 3

/-- The wire code of a scope (R3): 0 none, 1 discharge, 2 charge, 3 both. -/
def Scope.wire : Scope → BitVec 2
  | .none => 0 | .discharge => 1 | .charge => 2 | .both => 3

/-- The worst kind of the list (R145), 0 when it is empty. -/
def worstKind (r : Role) (l : List Record) : BitVec 2 :=
  if hasKind r l .trip then 3 else if hasKind r l .hold then 2 else if l.isEmpty then 0 else 1

/-- The union of the scopes of the records present (R145); 0 at a HANDLE or DOCK, whose records have none. -/
def scopeUnion (r : Role) (l : List Record) : BitVec 2 :=
  (if dischargeHeld r l then 1 else 0) ||| (if chargeHeld r l then 2 else 0)

/-- The summary byte of the list (R4, R145). -/
def summaryOf (r : Role) (l : List Record) : Summary :=
  ⟨BitVec.ofNat 4 (headLevel r l), worstKind r l, scopeUnion r l⟩

/-- What a supply dip keeps of a PACK's list (R137): every TRIP record, stamp 0, in the order they stood. -/
def keepTrips (r : Role) (l : List Record) : List Record :=
  (l.filter (fun x => x.code.kind r == .trip)).map (fun x => { x with stamp := 0 })

/-- The TRIPs of a PACK's list that are ACTIVE, less SETTINGS_INVALID, which the start-up itself judges (R137, R174). -/
def keptActive (l : List Record) : List Code :=
  (l.filter (fun x => x.code.kind .pack == .trip && x.phase == .active && x.code != .settingsInvalid)).map (·.code)

/-- The list is in the order of R137 and holds no code twice. -/
def listOk (r : Role) (l : List Record) : Bool :=
  decide (l.Pairwise (fun x y => x.code ≠ y.code ∧ ranksBefore r y x = false))

end Sys2Proof.Machine
end

