-- ==== Sys2Proof/Machine/Operands.lean ====
section
/-! DEFINITION. The operand forms of the line: frame and notice layouts (R3, R4, section 1.2), the reading of
codes the tables do not list (R3), CRC-8 (R169), pulse classes (R163), reception checks (R170, R1). -/

namespace Sys2Proof.Machine

/-! ### Enumerations of payloads (R3) -/

/-- The wire role code of a die's role (R3). -/
def roleCode : Role → BitVec 2
  | .handle => 0 | .pack => 1 | .dock => 2

/-- A discharge switch code as it is read: 3 as OFF (R3). -/
def readDsw : BitVec 2 → Dsw
  | 0 => .on | 1 => .cutPending | _ => .off

/-- The code of a discharge switch state (R3). -/
def Dsw.wire : Dsw → BitVec 2
  | .on => 0 | .cutPending => 1 | .off => 2

/-- A path field code as it is read: 5 to 7 as REFUSE (R3). -/
def readField : BitVec 3 → PathField
  | 0 => .none | 1 => .want | 2 => .accept | 3 => .full | _ => .refuse

/-- The code of a path field (R3). -/
def PathField.wire : PathField → BitVec 3
  | .none => 0 | .want => 1 | .accept => 2 | .full => 3 | .refuse => 4

/-- The code of a mode (R3). -/
def Mode.wire : Mode → BitVec 2
  | .eco => 0 | .auto => 1 | .boost => 2

/-- The code of a motor state (R3). -/
def Motor.wire : Motor → BitVec 3
  | .stopped => 0 | .align => 1 | .ramp => 2 | .run => 3 | .coast _ => 4 | .held => 5

/-- A motor state code shows STOPPED; 6 and 7 are read as RUN (R3). -/
def showsStopped (m : BitVec 3) : Bool := m == 0

/-- The code of a head output state (R3). -/
def HeadOutput.wire : HeadOutput → BitVec 2
  | .off => 0 | .on => 1 | .jamOff => 2 | .lockedOff => 3

/-- A run state code as it is read: 6 and 7 as ACTIVE (R3). -/
def readRun : BitVec 3 → RunState
  | 0 => .undocked | 1 => .idle | 2 => .offer | 3 => .active | 4 => .suspended | 5 => .rest | _ => .active

/-- The code of a run state (R3). -/
def RunState.wire : RunState → BitVec 3
  | .undocked => 0 | .idle => 1 | .offer => 2 | .active => 3 | .suspended => 4 | .rest => 5

/-- A converter mode code as it is read: 3 as CC (R3). -/
def readConverter : BitVec 2 → Converter
  | 0 => .off | 1 => .cc | 2 => .cv | _ => .cc

/-- The code of a converter mode (R3). -/
def Converter.wire : Converter → BitVec 2
  | .off => 0 | .cc => 1 | .cv => 2

/-- The code of an end cause (R3). -/
def EndCause.wire : EndCause → Byte
  | .complete => 1 | .withdrawn => 2 | .undocked => 3 | .packLost => 4 | .packRestart => 5
  | .starved => 6 | .dockFault => 7

/-- A stored pack status shows a discharge trip: worst kind TRIP with scope discharge or both (R32, R146). -/
def showsDischargeTrip (p : PackStatus) : Bool :=
  p.summary.kind == 3 && (p.summary.scope == 1 || p.summary.scope == 3)

/-! ### Figures and fields -/

/-- A figure in a two-byte field; a figure the field cannot hold is free (log 11). -/
def fit16 (n : Nat) : Half := if n < 65536 then BitVec.ofNat 16 n else Config.overField16 n

/-- A figure in a one-byte field; a figure the field cannot hold is free (log 11). -/
def fit8 (n : Nat) : Byte := if n < 256 then BitVec.ofNat 8 n else Config.overField8 n

/-- A signed figure saturating at the signed 16-bit limits (R5). -/
def signed16 (i : Int) : Half := BitVec.ofInt 16 (max (-32768) (min 32767 i))

/-- A temperature saturating at -128 and 127 (R5). -/
def signed8 (i : Int) : Byte := BitVec.ofInt 8 (max (-128) (min 127 i))

/-- The high byte of a two-byte field, sent first. -/
def hiByte (h : Half) : Byte := h.extractLsb' 8 8

/-- The low byte of a two-byte field. -/
def loByte (h : Half) : Byte := h.extractLsb' 0 8

/-- A two-byte field, high byte first. -/
def two (h : Half) : List Byte := [hiByte h, loByte h]

/-- One bit of a byte from a flag. -/
def bit (b : Bool) : BitVec 1 := if b then 1 else 0

/-! ### Payload layouts (section 1.2) -/

/-- The summary byte (R4): level in bits 7 to 4, worst kind in 3 to 2, scope in 1 to 0. -/
def summaryByte (s : Summary) : Byte := s.level ++ s.kind ++ s.scope

/-- The payload of a pack status. -/
def packStatusBytes (p : PackStatus) : List Byte :=
  two p.voltage ++ two p.current ++ [p.dischargeLimit, p.chargeLimit] ++ two p.target ++ two p.allowance
    ++ [p.soc, p.temperature, summaryByte p.summary, p.dsw ++ p.field ++ bit p.csw ++ p.revision]

/-- The payload of a pack profile. -/
def packProfileBytes (p : PackProfile) : List Byte :=
  [p.cells ++ p.revision] ++ two p.rated ++ two p.full ++ two p.cycles ++ [p.health] ++ two p.cellMax
    ++ two p.cellMin ++ [p.maxDischarge, p.maxCharge]

/-- The payload of a draw. -/
def drawBytes (d : Draw) : List Byte :=
  [d.mode ++ d.motor ++ bit d.trigger ++ d.head] ++ two d.speed ++ two d.current ++ two d.grant
    ++ two d.demand ++ [d.level ++ d.boost, summaryByte d.summary]

/-- The payload of a dock status; bits 2 to 0 of byte 0 are sent as 0. -/
def dockStatusBytes (d : DockStatus) : List Byte :=
  [d.run ++ d.conv ++ (0 : BitVec 3)] ++ two d.voltage ++ two d.current ++ two d.delivered
    ++ [d.capability, d.runNumber, summaryByte d.summary]

/-- Two bytes of a payload as a field. -/
def pair (b : List Byte) (i : Nat) : Half := byteAt b i ++ byteAt b (i + 1)

/-- The summary in a byte (R4). -/
def readSummary (b : Byte) : Summary := ⟨b.extractLsb' 4 4, b.extractLsb' 2 2, b.extractLsb' 0 2⟩

/-- A pack status read from its payload. -/
def readPackStatus (b : List Byte) : PackStatus :=
  ⟨pair b 0, pair b 2, byteAt b 4, byteAt b 5, pair b 6, pair b 8, byteAt b 10, byteAt b 11,
    readSummary (byteAt b 12), (byteAt b 13).extractLsb' 6 2, (byteAt b 13).extractLsb' 3 3,
    (byteAt b 13).getLsbD 2, (byteAt b 13).extractLsb' 0 2⟩

/-- A pack profile read from its payload. -/
def readPackProfile (b : List Byte) : PackProfile :=
  ⟨(byteAt b 0).extractLsb' 4 4, (byteAt b 0).extractLsb' 0 4, pair b 1, pair b 3, pair b 5, byteAt b 7,
    pair b 8, pair b 10, byteAt b 12, byteAt b 13⟩

/-- A draw read from its payload. -/
def readDraw (b : List Byte) : Draw :=
  ⟨(byteAt b 0).extractLsb' 6 2, (byteAt b 0).extractLsb' 3 3, (byteAt b 0).getLsbD 2,
    (byteAt b 0).extractLsb' 0 2, pair b 1, pair b 3, pair b 5, pair b 7, (byteAt b 9).extractLsb' 4 4,
    (byteAt b 9).extractLsb' 0 4, readSummary (byteAt b 10)⟩

/-- A dock status read from its payload. -/
def readDockStatus (b : List Byte) : DockStatus :=
  ⟨(byteAt b 0).extractLsb' 5 3, (byteAt b 0).extractLsb' 3 2, pair b 1, pair b 3, pair b 5, byteAt b 7,
    byteAt b 8, readSummary (byteAt b 9)⟩

/-! ### Frames (R3, R169) -/

/-- One shift of the CRC-8 register: left by one, with 2Fh when the outgoing top bit was 1 (R169). -/
def crc8Shift (r : Byte) : Byte := if r.getMsbD 0 then (r <<< 1) ^^^ 0x2F#8 else r <<< 1

/-- One byte into the CRC-8 register (R169). -/
def crc8Byte (r b : Byte) : Byte :=
  let r := r ^^^ b
  crc8Shift (crc8Shift (crc8Shift (crc8Shift (crc8Shift (crc8Shift (crc8Shift (crc8Shift r)))))))

/-- CRC-8 over bytes in the order sent, from FFh, with no final inversion (R169). -/
def crc8 (bytes : List Byte) : Byte := bytes.foldl crc8Byte 0xFF#8

/-- The kind code of an own frame (R1). -/
def Body.kindCode : Body → BitVec 4
  | .packStatus _ => 1 | .packProfile _ => 2 | .draw _ => 3 | .dockStatus _ => 4 | .reply _ => 7

/-- The payload of an own frame. -/
def Body.payload : Body → List Byte
  | .packStatus n => packStatusBytes n
  | .packProfile n => packProfileBytes n
  | .draw n => drawBytes n
  | .dockStatus n => dockStatusBytes n
  | .reply data => data

/-- An own frame as it goes out, byte by byte (R3), sent by a die of this role and tag. -/
def OwnFrame.bytes (f : OwnFrame) (r : Role) (tag : Half) : List Byte :=
  let payload := f.body.payload
  let front := [f.body.kindCode ++ BitVec.ofNat 4 payload.length,
    roleCode r ++ f.seq ++ bit f.urgent ++ bit f.doze] ++ two tag ++ payload
  front ++ [crc8 front]

/-! ### Reception (R163, R170, R1) -/

/-- The classes of a pulse by its length (R163). -/
inductive PulseClass where
  | glitch | one | zero | wake | stuck | malformed
  deriving DecidableEq, Repr

/-- The class of a pulse of this many nanoseconds (R163). -/
def pulseClass (ns : Nat) : PulseClass :=
  if ns < 2000 then .glitch
  else if 3000 ≤ ns ∧ ns ≤ 7000 then .one
  else if 12000 ≤ ns ∧ ns ≤ 18000 then .zero
  else if 400000 ≤ ns ∧ ns < 5000000 then .wake
  else if 5000000 ≤ ns then .stuck
  else .malformed

/-- The pulses of a frame that are not glitches (R163). -/
def countedPulses (ps : List Pulse) : List Pulse := ps.filter (fun p => pulseClass p.length != .glitch)

/-- A pulse is a bit of a frame, 0 or 1 (R163). -/
def isBit (p : Pulse) : Bool := pulseClass p.length == .one || pulseClass p.length == .zero

/-- The falling edge of a later bit comes 19 to 21 microseconds after the one before it (R163). -/
def edgeOk (p : Pulse) : Bool := inRange 19000 21000 p.gap

/-- No pulse of the frame is malformed and no bit edge fell outside its window (R163, R170). -/
def pulsesOk (ps : List Pulse) : Bool := ps.all isBit && (ps.drop 1).all edgeOk

/-- The bits of a frame in the order received (R163). -/
def pulseBits (ps : List Pulse) : List Bool := ps.map (fun p => pulseClass p.length == .one)

/-- Eight bits, bit 7 first, as a byte (R162). -/
def byteOfBits (l : List Bool) : Byte := l.foldl (fun b x => (b <<< 1) ||| (bit x).setWidth 8) 0

/-- Whole bytes of a list of bits, `n` of them. -/
def bytesOfBits : Nat → List Bool → List Byte
  | 0, _ => []
  | n + 1, l => byteOfBits (l.take 8) :: bytesOfBits n (l.drop 8)

/-- Whether a kind code may come from a sender role code with a payload length (R1). -/
def kindOk (kind : BitVec 4) (role : BitVec 2) (n : Nat) : Bool :=
  match kind with
  | 1 => role == 1 && n == 14
  | 2 => role == 1 && n == 14
  | 3 => role == 0 && n == 11
  | 4 => role == 2 && n == 10
  | 5 => role == 3 && n == 4
  | 6 => role == 3 && n == 3
  | 7 => role != 3 && inRange 1 14 n
  | _ => true

/-- An accepted frame as the PV takes it (R2): the sender, and what it carries. -/
inductive Received where
  | packStatus (h : Sender) (n : PackStatus)
  | packProfile (h : Sender) (n : PackProfile)
  | draw (h : Sender) (n : Draw)
  | dockStatus (h : Sender) (n : DockStatus)
  | probe (h : Sender) (target : Target) (record : BitVec 4) (index : Byte)
  | clear (h : Sender) (target : Target) (action : BitVec 3)
  | reply (h : Sender)
  | unknown (h : Sender)
  deriving DecidableEq, Repr

/-- The sender as bytes 1 to 3 of a frame give it (R3). -/
def readSender (b : List Byte) : Sender :=
  ⟨pair b 2, (byteAt b 1).extractLsb' 2 4, (byteAt b 1).getLsbD 1, (byteAt b 1).getLsbD 0⟩

/-- The content of a frame whose checks passed, by its kind (R1, section 1.2). -/
def readFrame (b : List Byte) : Received :=
  let h := readSender b
  let p := b.drop 4
  match (byteAt b 0).extractLsb' 4 4 with
  | 1 => .packStatus h (readPackStatus p)
  | 2 => .packProfile h (readPackProfile p)
  | 3 => .draw h (readDraw p)
  | 4 => .dockStatus h (readDockStatus p)
  | 5 => .probe h ⟨(byteAt p 0).extractLsb' 6 2, pair p 2⟩ ((byteAt p 0).extractLsb' 0 4) (byteAt p 1)
  | 6 => .clear h ⟨(byteAt p 0).extractLsb' 6 2, pair p 1⟩ ((byteAt p 0).extractLsb' 0 3)
  | 7 => .reply h
  | _ => .unknown h

/-- The checks of R170 on the bytes of a frame: length, CRC and kind. -/
def bytesOk (b : List Byte) : Bool :=
  let n := ((byteAt b 0).extractLsb' 0 4).toNat
  decide (n ≤ 14) && b.length == 5 + n && crc8 (b.take (4 + n)) == byteAt b (4 + n)
    && kindOk ((byteAt b 0).extractLsb' 4 4) ((byteAt b 1).extractLsb' 6 2) n

/-- The reception checks of R170 on the pulses of a frame: what it carries, or none where it is rejected. -/
def receptionChecks (ps : List Pulse) : Option Received :=
  let ps := countedPulses ps
  let b := bytesOfBits (ps.length / 8) (pulseBits ps)
  if pulsesOk ps && ps.length % 8 == 0 && decide (0 < ps.length) && bytesOk b then some (readFrame b)
  else none

end Sys2Proof.Machine
end

