-- ==== Sys2Proof/Machine/Tone.lean ====
section
/-! DEFINITION. The tone and indicator unit's own operations (chapter 8): requests, preemption, the pending
summary, the choice at an announcement's end, patterns, the envelope and the click. -/

namespace Sys2Proof.Machine

/-- An entry takes its level's place in the pending summary, replacing what is recorded there (R152).
The summary is kept highest level first. -/
def recordWaiting (w : Waiting) : List Waiting → List Waiting
  | [] => [w]
  | x :: xs =>
    if x.level < w.level then w :: x :: xs
    else if x.level = w.level then w :: xs
    else x :: recordWaiting w xs

/-- A spilled stack entry goes to the pending summary unless it is marked removed or its level is taken (R152). -/
def spillWaiting (w : Waiting) (l : List Waiting) : List Waiting :=
  if w.removed then l else if l.any (fun x => x.level == w.level) then l else recordWaiting w l

/-- The nesting stack, top first, after a push (R152): of four entries the bottom leaves first. -/
def pushStack (w : Waiting) (stack : List Waiting) : List Waiting :=
  w :: (if 4 ≤ stack.length then stack.dropLast else stack)

/-- The entry that leaves a full stack at a push (R152). -/
def spilled (stack : List Waiting) : Option Waiting :=
  if 4 ≤ stack.length then stack.getLast? else none

/-- A pulse of the playing pattern begins: with the envelope on at volume level 1 with its step timer started,
else at the pattern's volume level (R156). -/
def Tiu.beginPulse (clk : Nat) (p : Pattern) (t : Tiu) : Tiu :=
  { t with
    volume := some (if p.envelope then 1 else p.volume)
    envelopeTimer := if p.envelope then some clk else none }

/-- An announcement starts from the beginning of its pattern, A becomes its level, and a sounding click stops
(R152, R154, R157). An item with no pattern starts nothing. -/
def Tiu.start (clk : Nat) (item : Item) (level : Nat) (t : Tiu) : Tiu :=
  match item.pattern with
  | none => t
  | some p => Tiu.beginPulse clk p
    { t with level := level, playing := some ⟨item, level, 0, 0, .pulse⟩, patternTimer := some clk, click := none }

/-- The playing announcement goes onto the stack, and a full stack spills its bottom entry (R152). It goes there with its
removed mark clear, also where its record went while it played: R152 names no mark at a push (DESIGN CHOICE, log 50). -/
def Tiu.suspend (t : Tiu) : Tiu :=
  match t.playing with
  | none => t
  | some p =>
    { t with
      waiting := match spilled t.stack with
        | none => t.waiting
        | some w => spillWaiting w t.waiting
      stack := pushStack ⟨p.item, p.level, false⟩ t.stack }

/-- An announcement request of a level (R152): preemption above A, waiting at or below A. An item with no
pattern makes no request (R155). -/
def Tiu.request (clk : Nat) (item : Item) (level : Nat) (t : Tiu) : Tiu :=
  match item.pattern with
  | none => t
  | some _ =>
    if t.level < level then t.suspend.start clk item level
    else { t with waiting := recordWaiting ⟨item, level, false⟩ t.waiting }

/-- What the choice of R154 comes to: the announcement that starts, the stack and the pending summary after it. -/
structure Choice where
  next : Option Waiting
  stack : List Waiting
  waiting : List Waiting
  deriving DecidableEq, Repr

/-- Steps 2 to 4 of the choice of R154, over the stack from its top, with the removed entries of the pending
summary already discarded and its highest level first. -/
def choose : List Waiting → List Waiting → Choice
  | [], [] => ⟨none, [], []⟩
  | [], w :: ws => ⟨some w, [], ws⟩
  | x :: xs, [] => if x.removed then choose xs [] else ⟨some x, xs, []⟩
  | x :: xs, w :: ws =>
    if x.level < w.level then ⟨some w, x :: xs, ws⟩
    else if x.removed then choose xs (w :: ws)
    else ⟨some x, xs, w :: ws⟩

/-- Silence: A is 0 and the tone pin low (R154 step 4). -/
def Tiu.silence (t : Tiu) : Tiu :=
  { t with level := 0, playing := none, patternTimer := none, volume := none, envelopeTimer := none }

/-- An announcement's end: the choice of R154. -/
def Tiu.finish (clk : Nat) (t : Tiu) : Tiu :=
  let c := choose t.stack (t.waiting.filter (fun w => !w.removed))
  let t := { t with stack := c.stack, waiting := c.waiting }
  match c.next with
  | none => t.silence
  | some w => t.silence.start clk w.item w.level

/-- Entries of a code are marked removed (R153). -/
def markRemoved (c : Code) (l : List Waiting) : List Waiting :=
  l.map (fun w => if w.item = .code c then { w with removed := true } else w)

/-- The playing announcement is of this code and repeats until clear (R153). -/
def Tiu.endsWith (c : Code) (t : Tiu) : Bool :=
  match t.playing with
  | none => false
  | some p => p.item == .code c &&
    match p.item.pattern with
    | some q => q.repeats.isNone
    | none => false

/-- The removal of a code's record at the TIU (R153). -/
def Tiu.removed (clk : Nat) (c : Code) (t : Tiu) : Tiu :=
  let u := { t with stack := markRemoved c t.stack, waiting := markRemoved c t.waiting }
  if t.endsWith c then u.finish clk else u

/-- A boundary of the playing pattern (R155): pulse to gap, gap to the next pulse, the rest or the end, rest
to the next repeat. -/
def Tiu.step (clk : Nat) (t : Tiu) : Tiu :=
  match t.playing with
  | none => t
  | some p =>
    match p.item.pattern with
    | none => t
    | some q =>
      match p.phase with
      | .pulse =>
        { t with playing := some { p with phase := .gap }, patternTimer := some clk, volume := none
                 envelopeTimer := none }
      | .gap =>
        if p.pulse + 1 < q.pulses then
          Tiu.beginPulse clk q
            { t with playing := some { p with pulse := p.pulse + 1, phase := .pulse }, patternTimer := some clk }
        else
          match q.repeats with
          | some n =>
            if n ≤ p.rep + 1 then t.finish clk
            else { t with playing := some { p with phase := .rest }, patternTimer := some clk }
          | none => { t with playing := some { p with phase := .rest }, patternTimer := some clk }
      | .rest =>
        Tiu.beginPulse clk q
          { t with playing := some { p with rep := p.rep + 1, pulse := 0, phase := .pulse }
                   patternTimer := some clk }

/-- An envelope step within a pulse (R156): the level falls by one, 1 toward 8, where it holds. -/
def Tiu.envelopeStep (clk : Nat) (t : Tiu) : Tiu :=
  match t.envelopeTimer, t.volume with
  | some _, some v =>
    if v < 8 then
      { t with volume := some (v + 1), envelopeTimer := if v + 1 < 8 then some clk else none }
    else { t with envelopeTimer := none }
  | _, _ => t

/-- A click request (R157): taken with A = 0, starting or restarting the one-shot; ignored with A above 0. -/
def Tiu.clickRequest (clk : Nat) (t : Tiu) : Tiu :=
  if t.level = 0 then { t with click := some clk } else t

end Sys2Proof.Machine
end

