-- ==== Sys2Proof/Machine/Ops.lean ====
section
/-! DEFINITION. Operations every block shares: the clock, requests of the transmit set (R8 to R12), the
condition unit's raise, clear and latch with what they hand to the TIU and the PV (R139, R140), and the
traffic counters (R171). -/

namespace Sys2Proof.Machine

/-! ### Time and role -/

/-- The CDU's stamp counter in milliseconds: 32 bits, saturating, 0 at the end of start-up (R138). -/
def State.stamp (s : State) : Nat := min 4294967295 (s.clock / 1000)

/-- The interval in microseconds of a speed in rpm: floor(10,000,000 / (pole pairs x speed)) (R43). -/
def State.intervalOf (s : State) (rpm : Nat) : Nat := 10000000 / (s.settings.handle.polePairs * rpm)

/-- The speed reading is lowered to 0 once the time since the last valid crossing exceeds the 800 rpm
interval (R43). -/
def State.speedAt (s : State) (clk : Nat) : Nat :=
  match s.mdu.lastValid with
  | none => s.mdu.speed
  | some t => if s.intervalOf 800 < clk - t then 0 else s.mdu.speed

/-- Microseconds pass. -/
def State.advance (dt : Nat) (s : State) : State :=
  { s with clock := s.clock + dt, mdu.speed := s.speedAt (s.clock + dt) }

/-- The role the condition table is read at; an unconfigured die raises nothing. -/
def State.roleD (s : State) : Role := s.role.getD .handle

/-- The die has this role. -/
def State.isRole (s : State) (r : Role) : Bool := s.role == some r

/-- The die is awake, or still entering doze: its transmit set takes requests (R12). -/
def State.notDozing (s : State) : Bool := s.ssc.doze != .dozing

/-- The state notice may be requested (R6, R12, R177): not dozing, and not at a DOCK in UNDOCKED. -/
def State.publishes (s : State) : Bool :=
  s.role.isSome && s.notDozing && !(s.isRole .dock && s.ccu.run == .undocked)

/-! ### The transmit set (R11, R12) -/

/-- The die's frame of this kind is on the line. -/
def State.inFlight (s : State) (k : SendKind) : Bool :=
  match s.liu.line with
  | .sending f => f.kind == k
  | _ => false

/-- A request not yet pending. -/
def newRequest (urgent : Bool) (record : BitVec 4) (index : Byte) : Request :=
  ⟨urgent, 0, record, index, none, false⟩

/-- A request of the state notice or the profile joins or merges (R11), or renews the request whose frame is on
the line (R12). -/
def joinRequest (flying urgent : Bool) (r : Option Request) : Option Request :=
  match r with
  | none => some (newRequest urgent 0 0)
  | some r =>
    if flying then
      some { r with renewal := some ⟨urgent || (r.renewal.map (·.urgent)).getD false, r.record, r.index⟩ }
    else some { r with urgent := r.urgent || urgent }

/-- A reply request joins, replaces the pending reply with its attempt 0 (R11), or renews it in flight (R12). -/
def joinReply (flying : Bool) (record : BitVec 4) (index : Byte) (r : Option Request) : Option Request :=
  match r with
  | none => some (newRequest false record index)
  | some r =>
    if flying then some { r with renewal := some ⟨false, record, index⟩ }
    else some { r with record := record, index := index, attempt := 0 }

/-- The PV requests the state notice (R8, R9). -/
def State.requestState (urgent : Bool) (s : State) : State :=
  if s.publishes then { s with liu.tx.state := joinRequest (s.inFlight .state) urgent s.liu.tx.state } else s

/-- A PACK requests its pack profile, not urgent (R10); while the SSC is ENTERING or DOZING it does not join (R177). -/
def State.requestProfile (s : State) : State :=
  if s.isRole .pack && s.ssc.doze == .awake then
    { s with liu.tx.profile := joinRequest (s.inFlight .profile) false s.liu.tx.profile }
  else s

/-- An addressed probe requests a reply (R21). -/
def State.requestReply (record : BitVec 4) (index : Byte) (s : State) : State :=
  if s.role.isSome && s.ssc.doze == .awake then
    { s with liu.tx.reply := joinReply (s.inFlight .reply) record index s.liu.tx.reply }
  else s

/-- A block asks the LIU for a wake pulse; a request made while one is pending or being sent merges (R165). -/
def State.requestWakePulse (s : State) : State := { s with liu.wakeRequest := true }

/-- A wake cause was found in AWAKE: an idle timer expiry that comes with it makes no doze entry (R179). -/
def State.wakeCause (s : State) : State :=
  if s.ssc.doze = .awake then { s with ssc.causeAt := some s.clock } else s

/-- A local wake cause was found inside an event of a station that is not awake (R179). In AWAKE such a cause ends the idle
condition or starts an announcement, or is noted by `wakeCause`. -/
def State.askWake (s : State) : State :=
  if s.ssc.doze == .awake then s else { s with ssc.wakeAsked := true }

/-! ### Announcements and conditions -/

/-- An announcement request at the TIU (R151). -/
def State.announce (item : Item) (level : Nat) (s : State) : State :=
  { s with tiu := s.tiu.request s.clock item level }

/-- The list holds a record of the code. -/
def State.has (s : State) (c : Code) : Bool := hasRecord s.cdu c

/-- The list holds a HOLD at the die's role. -/
def State.hasHold (s : State) : Bool := hasKind s.roleD s.cdu .hold

/-- The list holds a TRIP at the die's role. -/
def State.hasTrip (s : State) : Bool := hasKind s.roleD s.cdu .trip

/-- What raising a code would come to now (R139). -/
def State.raising (s : State) (c : Code) : RaiseOutcome := raiseOutcome s.roleD s.cdu c

/-- A raise creates a record or re-activates one: it is an event at the TIU and at the blocks (R139). -/
def RaiseOutcome.isEvent : RaiseOutcome → Bool
  | .created => true | .reactivated => true | _ => false

/-- A raise at the CDU (R139): the list; the announcement of a new or re-activated record (R151); and the
urgent state notice where the head level rises (R9). What the blocks do is in the role files. -/
def State.raiseRec (c : Code) (s : State) : State :=
  let before := headLevel s.roleD s.cdu
  let l := raiseList s.roleD s.stamp s.cdu c
  let t := if (s.raising c).isEvent then { s with cdu := l }.announce (.code c) (c.level s.roleD)
    else { s with cdu := l }
  if before < headLevel s.roleD l then t.requestState true else t

/-- The removal of a code's record, handed to the TIU (R140, R153). Nothing where the list has none. -/
def State.dropRec (c : Code) (s : State) : State :=
  if s.has c then { s with cdu := removeList s.cdu c, tiu := s.tiu.removed s.clock c } else s

/-- A clear of a TRIM or HOLD code, taken from the code's source alone (R136, R140). -/
def State.clearRec (b : Block) (c : Code) (s : State) : State :=
  if c.source = b ∧ c.kind s.roleD ≠ .trip then s.dropRec c else s

/-- A cause-gone report of a TRIP code, taken from the code's source alone (R140). -/
def State.latchRec (b : Block) (c : Code) (s : State) : State :=
  if c.source = b ∧ c.kind s.roleD = .trip then { s with cdu := latchList s.cdu c } else s

/-! ### Traffic counters (R171) -/

/-- A 16-bit counter at an event, unless frozen. -/
def Liu.tick (l : Liu) (n : Nat) : Nat := if l.frozen then n else satAdd 65535 n 1

/-- An accepted frame counts accepted, and matched when its sender tag matches under the mask (R171). -/
def State.countAccepted (tag : Half) (s : State) : State :=
  let m := s.settings.common.matchMask
  let hit := (tag &&& m) == (s.settings.common.matchCompare &&& m)
  { s with
    liu.accepted := s.liu.tick s.liu.accepted
    liu.matched := if hit then s.liu.tick s.liu.matched else s.liu.matched }

/-- A rejected frame counts once (R170, R171). -/
def State.countRejected (s : State) : State := { s with liu.rejected := s.liu.tick s.liu.rejected }

/-- The LIU receives frames (R170, R166, R178): a running, configured die, not dozing, its line not stuck. -/
def State.receives (s : State) : Bool :=
  s.role.isSome && s.notDozing && !s.has .lineStuck

end Sys2Proof.Machine
end

