-- ==== Sys2Proof/Machine/HandleBudget.lean ====
section
/-! DEFINITION. The HANDLE's budget: grant and motor current limit (R31 to R37). -/

namespace Sys2Proof.Machine

/-- The figure of a stored pack status the HANDLE may draw on, in 100 mA units (R32), where its switch is ON
and it shows no discharge trip; 0 otherwise. -/
def offeredCurrent (p : PackStatus) : Nat :=
  if readDsw p.dsw = .on ∧ showsDischargeTrip p = false then p.dischargeLimit.toNat else 0

/-- The pack discharge current I_pk before the profile's bound, in 100 mA units (R32). -/
def State.entryCurrent (s : State) : Nat :=
  match s.pv.pack.state, s.pv.pack.stored with
  | .fresh, some p => offeredCurrent p
  | .stale, some p => offeredCurrent p / 2
  | _, _ => s.settings.handle.limp

/-- I_pk (R32): bounded by the profile's maximum discharge while the slot is valid. -/
def State.packCurrent (s : State) : Nat :=
  match s.pv.slot with
  | none => s.entryCurrent
  | some x => min s.entryCurrent x.profile.maxDischarge.toNat

/-- The available current in mA, a negative result replaced by 0 (R33). -/
def State.availCurrent (s : State) : Nat :=
  s.packCurrent * 100 - s.head.current * 10 - s.settings.handle.reserve

/-- The available power in dW, saturating at 4095 (R33). -/
def State.availPower (s : State) : Nat := min 4095 (s.hb.vbus * s.availCurrent / 10000)

/-- The mode cap before halving (R33). -/
def State.modeCap (s : State) : Nat :=
  match s.mdu.mode with
  | .eco => s.settings.handle.ecoCap
  | .auto => s.settings.handle.autoBase + s.settings.handle.autoStep * s.dsu.boost
  | .boost => s.settings.handle.boostCap

/-- P_mode (R33): halved, truncated, while HANDLE_HOT is present. -/
def State.modePower (s : State) : Nat := if s.has .handleHot then s.modeCap / 2 else s.modeCap

/-- P_cap (R33). -/
def State.capPower (s : State) : Nat := min s.modePower s.availPower

/-- P_grant after a computation (R34); `period` is a budget period expiry. -/
def State.nextGrant (period : Bool) (s : State) : Nat :=
  if s.mdu.motor = .run then
    if s.capPower < s.hb.pGrant then s.capPower
    else if period then min s.capPower (s.hb.pGrant + 40)
    else s.hb.pGrant
  else 0

/-- The effective power (R35) for a grant. -/
def State.effectivePower (s : State) (grant : Nat) : Nat :=
  match s.mdu.motor with
  | .run => max grant (min s.settings.handle.startPower s.capPower)
  | .align => min s.settings.handle.startPower s.capPower
  | .ramp => min s.settings.handle.startPower s.capPower
  | _ => 0

/-- I_mot for a grant (R35): divided while the bus stands at or above V_floor, saturating at 25,500 mA; held below it. -/
def State.motorLimit (s : State) (grant : Nat) : Nat :=
  if s.settings.handle.vFloor ≤ s.hb.vbus then min 25500 (s.effectivePower grant * 10000 / s.hb.vbus)
  else s.hb.iMot

/-- The figures of one HANDLE computation (R32 to R35). -/
def State.grantFigures (period : Bool) (s : State) : State :=
  { s with
    hb.pMode := s.modePower
    hb.pGrant := s.nextGrant period
    hb.iMot := s.motorLimit (s.nextGrant period) }

/-- One HANDLE budget computation (R31 to R35), with BUS_LOW raised below V_floor and cleared at or above it. -/
def State.computeGrant (period : Bool) (s : State) : State :=
  let t := s.grantFigures period
  if s.settings.handle.vFloor ≤ s.hb.vbus then t.clearRec .bgu .busLow else t.raiseRec .busLow

end Sys2Proof.Machine
end

