-- ==== Sys2Proof/Machine/Motor.lean ====
section
/-! DEFINITION. The HANDLE's motor drive unit and head output: shared operations (chapter 3). -/

namespace Sys2Proof.Machine

/-! ### Speed target (R51, R52) -/

/-- S_raw in rpm, limited to 120,000 (R51). -/
def State.rawSpeed (s : State) : Nat :=
  min 120000 <|
    match s.mdu.mode with
    | .eco => s.settings.handle.ecoSpeed * 100
    | .auto => (s.settings.handle.autoSpeedBase + s.settings.handle.autoSpeedStep * s.dsu.boost) * 100
    | .boost => s.settings.handle.boostSpeed * 100

/-- The exclusion band's placement of a raw speed (R52), band edges in 100 rpm units. -/
def placeSpeed (base limit raw : Nat) : Nat :=
  if base ≤ limit ∧ base * 100 ≤ raw ∧ raw ≤ limit * 100 then
    if raw - base * 100 < limit * 100 - raw then base * 100 - 100 else limit * 100 + 100
  else raw

/-- S_tgt as the present mode and boost level form it (R51, R52). -/
def State.targetSpeed (s : State) : Nat :=
  placeSpeed s.settings.handle.bandBase s.settings.handle.bandLimit s.rawSpeed

/-- The setpoint is slewing: S_cur differs from S_tgt (R53). -/
def State.slewing (s : State) : Bool := s.mdu.sCur != s.mdu.sTgt

/-- The MDU forms S_tgt; a change that leaves the setpoint slewing disturbs the open window (R51, R74). -/
def State.formTarget (s : State) : State :=
  let t := { s with mdu.sTgt := s.targetSpeed }
  if s.mdu.sTgt ≠ s.targetSpeed ∧ t.slewing then { t with dsu.disturbed := true } else t

/-- The drive level that matches a speed (R54). -/
def matchLevel (rpm : Nat) : Nat := 1000 * rpm / 120000

/-- The commanded speed of RAMP, a time in microseconds after its entry (R49). -/
def commandedSpeed (micros : Nat) : Nat := if 300000 ≤ micros then 12000 else 600 + 11400 * micros / 300000

/-- The commanded speed now (R49). -/
def State.rampSpeed (s : State) : Nat :=
  match s.mdu.rampTimer with
  | none => 600
  | some t => commandedSpeed (s.clock - t)

/-! ### Head output (R66) -/

/-- The head output is eligible (R66). -/
def State.headEligible (s : State) : Bool := s.mdu.motor == .run && s.head.present

/-- The head output follows its eligibility from OFF and ON; leaving ON stops the jam timer (R66, R67). -/
def State.headFollow (s : State) : State :=
  if s.head.output = .off ∧ s.headEligible then { s with head.output := .on }
  else if s.head.output = .on ∧ s.headEligible = false then
    { s with head.output := .off, head.jamTimer := none }
  else s

/-! ### Motor state (R58, R63) -/

/-- The bridge is driven in ALIGN, RAMP and RUN (R42). -/
def Motor.driven : Motor → Bool
  | .align => true | .ramp => true | .run => true | _ => false

/-- Two motor states are the same but for the coast aim. -/
def Motor.sameState (m n : Motor) : Bool := m.wire == n.wire

/-- What the entry to a motor state sets and stops: the timers of the state left (R48, R49, R50, R53), and the
entry actions of the new one (R48, R49, R53, R54, R58, R61). -/
def Mdu.enter (clk : Nat) (m : Motor) (u : Mdu) : Mdu :=
  let v := { u with
    motor := m, alignTimer := none, rampTimer := none, retryTimer := none, setpointTimer := none
    wakeWait := none, sCur := 0 }
  match m with
  | .stopped => v
  | .held => v
  | .align => { v with alignTimer := some clk, lastCommutation := some clk, bridgeOff := false }
  | .ramp => { v with rampTimer := some clk, validCount := 0, bridgeOff := false }
  | .run => { v with sCur := u.speed, setpointTimer := some clk, missCount := 0, bridgeOff := false }
  | .coast a =>
    { v with
      drive := 0, bridgeOff := false
      retryTimer := if a = .retry then some clk else none
      validCount := if a = .catch_ then 0 else u.validCount }

/-- POWER_LIMITED ends when the motor leaves RUN (R37). -/
def State.leaveRun (s : State) : State :=
  State.clearRec .bgu .powerLimited { s with hb.limited := 0, hb.equal := 0 }

/-- A change of motor state: one event at the BGU, the DSU, the PV and the head output (R63). -/
def State.setMotor (m : Motor) (s : State) : State :=
  let t := { s with mdu := s.mdu.enter s.clock m }
  let t := if s.mdu.motor = .run then t.leaveRun else t
  let t := t.computeGrant false
  let t := { t with dsu.disturbed := true }
  let t := if s.mdu.motor = .stopped ∨ m = .stopped then t.requestState true else t
  t.headFollow

/-- A change of the coast aim in COAST; an aim of HOLD with the bridge confirmed off enters HELD at once (R59). -/
def State.setAim (a : Aim) (s : State) : State :=
  if a = .hold ∧ s.mdu.bridgeOff then s.setMotor .held
  else
    { s with
      mdu.motor := .coast a
      mdu.retryTimer := none
      mdu.validCount := if a = .catch_ then 0 else s.mdu.validCount }

/-- The motor coasts with an aim: by a change of the aim in COAST, else by entering COAST. -/
def State.coast (a : Aim) (s : State) : State :=
  if s.mdu.motor.sameState (.coast a) then s.setAim a else s.setMotor (.coast a)

/-! ### Starting (R45 to R48) -/

/-- The spin check (R48). -/
def State.spinCheck (s : State) : State :=
  if 12000 ≤ s.mdu.speed then s.coast .catch_
  else if 3000 ≤ s.mdu.speed then s.coast .settle
  else s.setMotor .align

/-- Nothing in the list refuses a start: no HOLD and no TRIP (R45). -/
def State.clearToRun (s : State) : Bool := !s.hasHold && !s.hasTrip

/-- A start from STOPPED (R45): the wake wait against a DOZING or ABSENT pack, else the spin check, PACK_LOST
raised first against a LOST one (R47). -/
def State.start (s : State) : State :=
  if s.mdu.motor = .stopped ∧ s.mdu.trigger ∧ s.clearToRun then
    match s.pv.pack.state with
    | .dozing => State.requestWakePulse { s with mdu.wakeWait := some s.clock }
    | .absent => State.requestWakePulse { s with mdu.wakeWait := some s.clock }
    | .lost => (s.raiseRec .packLost).spinCheck
    | .fresh => s.spinCheck
    | .stale => s.spinCheck
  else s

/-- A start from COAST or HELD: no wake wait; PACK_LOST against a LOST, ABSENT or DOZING pack (R47), then the
spin check. -/
def State.restart (s : State) : State :=
  match s.pv.pack.state with
  | .fresh => s.spinCheck
  | .stale => s.spinCheck
  | _ => (s.raiseRec .packLost).spinCheck

/-- The catch choice (R60). -/
def State.catchChoice (s : State) : State :=
  if 12000 ≤ s.mdu.speed then s.coast .catch_
  else if 3000 ≤ s.mdu.speed then s.coast .settle
  else s.restart

/-! ### Holds and trips at the motor (R46, R58 to R60) -/

/-- A HELD motor whose trigger is released or which a TRIP reaches (R60). -/
def State.leaveHeld (s : State) : State :=
  if s.mdu.speed < 1000 then s.setMotor .stopped else s.setMotor (.coast .stop)

/-- A HOLD raised, at the MDU: it cancels a wake wait (R46), and takes the motor off drive (R58, R59). -/
def State.motorHold (s : State) : State :=
  match s.mdu.motor with
  | .stopped => { s with mdu.wakeWait := none }
  | .coast .stop => s
  | .coast .hold => s
  | .coast _ => s.setAim .hold
  | .held => s
  | _ => if s.hasTrip then s.setMotor (.coast .stop) else s.setMotor (.coast .hold)

/-- A TRIP raised, at the MDU (R46, R58, R59, R60). -/
def State.motorTrip (s : State) : State :=
  match s.mdu.motor with
  | .stopped => { s with mdu.wakeWait := none }
  | .coast .stop => s
  | .coast _ => s.setAim .stop
  | .held => s.leaveHeld
  | _ => s.setMotor (.coast .stop)

/-- The removal of a HOLD or TRIP, at the MDU: where none is left, a start from STOPPED (R45), or the catch choice
from COAST with aim HOLD (R59) or from HELD with the trigger pressed (R60). -/
def State.motorFreed (s : State) : State :=
  if s.clearToRun then
    match s.mdu.motor with
    | .stopped => s.start
    | .coast .hold => s.catchChoice
    | .held => if s.mdu.trigger then s.catchChoice else s
    | _ => s
  else s

/-- A raise at a HANDLE: a new or re-activated HOLD or TRIP reaches the motor (R139, R143). -/
def State.raiseHandle (c : Code) (s : State) : State :=
  let t := s.raiseRec c
  if (s.raising c).isEvent then
    match c.kind .handle with
    | .trim => t
    | .hold => t.motorHold
    | .trip => t.motorTrip
  else t

/-- A removal at a HANDLE reaches the motor where the record was a HOLD or TRIP (R140). -/
def State.removeHandle (c : Code) (s : State) : State :=
  if s.has c then
    if c.kind .handle = .trim then s.dropRec c else (s.dropRec c).motorFreed
  else s

/-- A clear of a TRIM or HOLD code at a HANDLE, from its source (R140). -/
def State.clearHandle (b : Block) (c : Code) (s : State) : State :=
  if c.source = b ∧ c.kind .handle ≠ .trip then s.removeHandle c else s

/-! ### Trigger (R44, R59, R62) -/

/-- A trigger press taken (R44, R45, R59, R86): the click, the failed-start count and the tally, and a start. -/
def State.press (s : State) : State :=
  let t := { s with
    mdu.trigger := true
    mdu.failedStarts := 0
    dsu.tally := 0
    tiu := s.tiu.clickRequest s.clock }
  match t.mdu.motor with
  | .stopped => t.start
  | .coast .stop =>
    if t.hasTrip then t else if t.hasHold then t.setAim .hold else t.catchChoice
  | _ => t

/-- The motor at a trigger release (R46, R58, R59, R60). -/
def State.motorRelease (s : State) : State :=
  match s.mdu.motor with
  | .stopped => { s with mdu.wakeWait := none }
  | .coast .stop => s
  | .coast _ => s.setAim .stop
  | .held => s.leaveHeld
  | _ => s.setMotor (.coast .stop)

/-- The head output at a trigger release: LOCKED_OFF ends with BRUSH_JAM, and the jam history is emptied (R66, R68). -/
def State.headRelease (s : State) : State :=
  let t := { s with head.jamHistory := [] }
  if s.head.output = .lockedOff then State.clearHandle .mdu .brushJam { t with head.output := .off } else t

/-- A trigger release taken (R44, R62, R86, R141). DIRT_SENSOR_FAULT is cleared before the LATCHED
records go, and of several LATCHED records the head goes first (DESIGN CHOICE, log 7). -/
def State.release (s : State) : State :=
  let t := { s with mdu.trigger := false, dsu.quiet := 0, dsu.pinnedCount := 0 }
  let t := t.clearHandle .dsu .dirtSensorFault
  let t := (latchedCodes t.cdu).foldl (fun u c => u.removeHandle c) t
  t.motorRelease.headRelease

/-! ### Crossings (R43, R49, R55, R61) -/

/-- The speed reading of a valid crossing, an interval in microseconds after the one before it (R43). -/
def State.speedOf (s : State) (interval : Nat) : Nat :=
  if interval = 0 then Config.speedOfNoInterval s.settings.handle.polePairs
  else 10000000 / (s.settings.handle.polePairs * interval)

/-- The reading and its reference after a valid crossing: no reading before two crossings (R43). -/
def State.crossing (s : State) : State :=
  match s.mdu.lastValid with
  | none => { s with mdu.lastValid := some s.clock }
  | some t => { s with mdu.lastValid := some s.clock, mdu.speed := s.speedOf (s.clock - t) }

/-- The expected interval at the present speed reading (R55); free while it is 0 (log 10). -/
def State.expectedInterval (s : State) : Nat :=
  if s.mdu.speed = 0 then Config.intervalAtRest s.settings.handle.polePairs else s.intervalOf s.mdu.speed

/-- Between one half and three halves of the expected interval after a reference (R49, R55). "Between" leaves the two
bounds open; the model takes both as valid (DESIGN CHOICE, log 14). -/
def inWindow (expected elapsed : Nat) : Bool := decide (expected ≤ 2 * elapsed) && decide (2 * elapsed ≤ 3 * expected)

/-- Microseconds since a reference, none before there is one. -/
def State.sinceMark (s : State) (mark : Option Nat) : Option Nat := mark.map (fun t => s.clock - t)

/-- A crossing comes in its window: after the previous commutation in RAMP and RUN, after the previous valid
crossing in CATCH, where nothing commutates (R49, R55, R61; log 14). -/
def State.crossingValid (s : State) (expected : Nat) (mark : Option Nat) : Bool :=
  match s.sinceMark mark with
  | none => false
  | some e => inWindow expected e

/-- The speed loop at a valid crossing in RUN (R54): down by one step above S_cur, up by one step below it while
the latest bus current sample is at or below I_mot. -/
def State.speedLoop (s : State) : State :=
  if s.mdu.sCur < s.mdu.speed then { s with mdu.drive := s.mdu.drive - 1 }
  else if s.mdu.speed < s.mdu.sCur ∧ s.mdu.busCurrent ≤ s.hb.iMot then
    { s with mdu.drive := min 1000 (s.mdu.drive + 1) }
  else s

/-- Lock: 24 valid crossings in a row take the motor to RUN (R49, R61); a catch starts at the matching drive level. -/
def State.lock (s : State) : State :=
  match s.mdu.motor with
  | .coast _ => State.setMotor .run { s with mdu.drive := min 1000 (matchLevel s.mdu.speed), mdu.lastCommutation := some s.clock }
  | _ => State.setMotor .run { s with mdu.lastCommutation := some s.clock }

/-- A valid crossing counts toward lock (R49, R61). -/
def State.countValid (s : State) : State :=
  let t := State.crossing { s with mdu.validCount := satAdd 24 s.mdu.validCount 1 }
  if 24 ≤ t.mdu.validCount then t.lock else t

/-- A back-EMF crossing at the MDU, by motor state (R43, R49, R55, R61; log 14). -/
def State.zeroCross (s : State) : State :=
  match s.mdu.motor with
  | .align => s
  | .ramp =>
    if s.crossingValid (s.intervalOf s.rampSpeed) s.mdu.lastCommutation then s.countValid
    else { s with mdu.validCount := 0 }
  | .run =>
    if s.crossingValid s.expectedInterval s.mdu.lastCommutation then
      (State.crossing { s with mdu.missCount := 0, mdu.lastCommutation := some s.clock }).speedLoop
    else s
  | .coast .catch_ =>
    if s.crossingValid s.expectedInterval s.mdu.lastValid then s.countValid else s.setAim .settle
  | _ => s.crossing

/-- Times no older than a limit in microseconds (R56, R67). -/
def recent (clk limit : Nat) (l : List Nat) : List Nat := l.filter (fun t => decide (clk - t ≤ limit))

/-- Lock is lost (R55, R56): LOCK_LOST, the lock-loss history, and START_FAIL on the third loss within 10 s. -/
def State.loseLock (s : State) : State :=
  let h := recent s.clock 10000000 s.mdu.lockLoss ++ [s.clock]
  let third := decide (3 ≤ h.length)
  let t := { s with mdu.lockLoss := if third then [] else h }
  let t := t.raiseHandle .lockLost
  if third then t.raiseHandle .startFail else t

/-- Twice the expected interval passed without a valid crossing (R49, R55, R61). -/
def State.missCrossing (s : State) : State :=
  match s.mdu.motor with
  | .ramp => { s with mdu.validCount := 0 }
  | .run =>
    let t := { s with mdu.missCount := satAdd 6 s.mdu.missCount 1, mdu.lastCommutation := some s.clock }
    if 6 ≤ t.mdu.missCount then t.loseLock else t
  | .coast .catch_ => s.setAim .settle
  | _ => s

/-- The speed of a mark (R43). -/
def markSpeed : SpeedMark → Nat
  | .below12000 => 12000 | .below3000 => 3000 | .below1000 => 1000

/-- The event "the speed falls below X" (R43, R55, R59). -/
def State.speedFalls (m : SpeedMark) (s : State) : State :=
  let t := { s with mdu.speed := min s.mdu.speed (markSpeed m - 1) }
  match m with
  | .below12000 =>
    let t := t.clearHandle .mdu .lockLost
    if t.mdu.motor = .coast .catch_ then t.setAim .settle else t
  | .below3000 => if t.mdu.motor = .coast .settle then t.restart else t
  | .below1000 => if t.mdu.motor = .coast .stop then t.setMotor .stopped else t

/-- A bus current sample, in mA: the latest sample, the power limiter, ALIGN and RAMP (R54). A sample above I_mot in RAMP
with the drive level above the matching one lowers it by one step in all (DESIGN CHOICE, log 37). -/
def State.busSample (i : Nat) (s : State) : State :=
  let above := decide (s.hb.iMot < i)
  let d := s.mdu.drive
  let goal := matchLevel s.rampSpeed
  let next := match s.mdu.motor with
    | .align => if above then d - 1 else min 1000 (d + 1)
    | .ramp => if above then d - 1 else if d < goal then d + 1 else if goal < d then d - 1 else d
    | .run => if above then d - 1 else d
    | _ => d
  { s with mdu.busCurrent := i, mdu.drive := next }

/-! ### Temperature (R64) -/

/-- A thermistor reading is limited to -40 to 125 (R25, R64). -/
def limitTemp (t : Int) : Int := max (-40) (min 125 t)

/-- A handle thermistor reading judged (R64): HANDLE_HOT, then HANDLE_OVERHEAT (DESIGN CHOICE, log 7). A raise or clear of HANDLE_HOT is a
computation of the grant (R31). -/
def State.judgeHandleTemp (t : Int) (s : State) : State :=
  if 80 < t then
    let u := s.raiseRec .handleHot
    let u := if (s.raising .handleHot).isEvent then u.computeGrant false else u
    if 95 < t then u.raiseHandle .handleOverheat else u
  else if t < 75 then
    let u := s.clearHandle .mdu .handleHot
    let u := if s.has .handleHot then u.computeGrant false else u
    u.clearHandle .mdu .handleOverheat
  else s

end Sys2Proof.Machine
end

