-- ==== Sys2Proof/Machine/Dirt.lean ====
section
/-! DEFINITION. The HANDLE's dirt sensing unit: windows, ring, score, level, boost envelope, sensor faults
(chapter 4). -/

namespace Sys2Proof.Machine

/-- T_fe in mV at the present speed reading, saturating at 1023 (R70). -/
def State.frontEnd (s : State) : Nat :=
  min 1023 (s.settings.handle.t0 + s.settings.handle.tk * (s.mdu.speed / 1000) / 16)

/-- The score of a ring, newest first (R77). -/
def scoreOf (ring : List Nat) : Nat := 2 * (ring.take 4).sum + ((ring.drop 4).take 12).sum

/-- How many thresholds stand at or below a figure (R78). -/
def countAtOrBelow (thresholds : List Nat) (n : Nat) : Nat := thresholds.countP (fun t => decide (t ≤ n))

/-- The level classed from a score (R78). -/
def classLevel (thresholds : List Nat) (hyst level score : Nat) : Nat :=
  let up := countAtOrBelow thresholds score
  let down := countAtOrBelow thresholds (score + hyst)
  if level < up then up else if down < level then down else level

/-- The count of the closing window: 255 where it was pinned, else the number counted (R71). -/
def Dsu.closingCount (d : Dsu) : Nat := if d.pinned then 255 else d.count

/-- The window that closes is settled (R74). -/
def Dsu.isSettled (speed : Nat) (d : Dsu) : Bool :=
  !d.disturbed && decide (speed ≤ d.startSpeed + 2000) && decide (d.startSpeed ≤ speed + 2000)

/-- A settled window's count enters the ring; at most 16 stay; the score is formed again, and the level classed
while DIRT_SENSOR_FAULT is absent (R75, R77, R78). -/
def Dsu.enterRing (h : HandleSettings) (fault : Bool) (d : Dsu) : Dsu :=
  let ring := (d.closingCount :: d.ring).take 16
  let score := scoreOf ring
  { d with
    ring := ring
    unsettled := 0
    score := score
    level := if fault then d.level else classLevel h.thresholds h.hysteresis d.level score }

/-- An unsettled window counts; at 10 the ring is emptied, the score and the level go to 0 (R76). -/
def Dsu.leaveUnsettled (d : Dsu) : Dsu :=
  let n := satAdd 10 d.unsettled 1
  if n = 10 then { d with unsettled := 10, ring := [], score := 0, level := 0 } else { d with unsettled := n }

/-- The quiet count after a settled window of this count at this speed (R82). -/
def nextQuiet (count speed quiet : Nat) : Nat :=
  if count = 0 ∧ 50000 < speed then satAdd 2400 quiet 1 else 0

/-- The pinned count after a settled window of this count (R83). -/
def nextPinned (count pinnedCount : Nat) : Nat := if count = 255 then satAdd 20 pinnedCount 1 else 0

/-- Steps 1 to 4 of a window expiry (R73): the tally, the judgement, the ring, the score and the level. -/
def Dsu.closeWindow (h : HandleSettings) (fault : Bool) (speed : Nat) (d : Dsu) : Dsu :=
  let d := { d with tally := satAdd 4294967295 d.tally d.closingCount }
  if d.isSettled speed then d.enterRing h fault else d.leaveUnsettled

/-- Step 5 (R82, R83): after a settled window the two watches advance, while the fault is absent. -/
def Dsu.watch (settled fault : Bool) (speed : Nat) (d : Dsu) : Dsu :=
  if settled && !fault then
    { d with
      quiet := nextQuiet d.closingCount speed d.quiet
      pinnedCount := nextPinned d.closingCount d.pinnedCount }
  else d

/-- A watch has reached its limit (R82, R83). -/
def Dsu.watchFires (d : Dsu) : Bool := d.quiet == 2400 || d.pinnedCount == 20

/-- A raise of DIRT_SENSOR_FAULT sets the level and B to 0 in the same expiry (R84). -/
def Dsu.faulted (d : Dsu) : Dsu := { d with level := 0, boost := 0 }

/-- The envelope acts (R79): in AUTO with the fault absent a jump, or the decay count and its step; else B and the
decay count are 0. -/
def Dsu.envelope (h : HandleSettings) (auto fault : Bool) (d : Dsu) : Dsu :=
  if auto && !fault then
    if d.boost < d.level then { d with boost := d.level, decay := 0 }
    else
      let n := d.decay + 1
      if (if h.decayLong then 10 else 5) ≤ n then
        { d with decay := 0, boost := if d.level < d.boost then d.boost - 1 else d.boost }
      else { d with decay := n }
  else { d with boost := 0, decay := 0 }

/-- A window opens (R72, R73): the count 0, the start speed, the pinned watch by the comparator's level, and the
disturbed mark. -/
def Dsu.openWindow (clk speed threshold : Nat) (mark : Bool) (d : Dsu) : Dsu :=
  { d with
    windowTimer := some clk
    threshold := threshold
    count := 0
    startSpeed := speed
    pinned := d.above
    disturbed := mark }

/-- A change of B is one event at the BGU and at the MDU (R81). -/
def State.boostChanged (before : Nat) (s : State) : State :=
  if s.dsu.boost = before then s else (s.computeGrant false).formTarget

/-- A window expiry (R73), steps 1 to 8, and then the change of B passed on. The opening test of R74 is made before the new
S_tgt is formed (DESIGN CHOICE, log 7). -/
def State.windowClose (s : State) : State :=
  let h := s.settings.handle
  let fault := s.has .dirtSensorFault
  let settled := s.dsu.isSettled s.mdu.speed
  let d := (s.dsu.closeWindow h fault s.mdu.speed).watch settled fault s.mdu.speed
  let fires := settled && !fault && d.watchFires
  let d := if fires then d.faulted else d
  let t := { s with dsu := d }
  let t := if fires then t.raiseRec .dirtSensorFault else t
  let d := d.envelope h (s.mdu.mode == .auto) (fault || fires)
  let d := d.openWindow s.clock s.mdu.speed s.frontEnd (s.mdu.motor != .run || s.slewing)
  State.boostChanged s.dsu.boost { t with dsu := d }

/-- The change of mode at the DSU (R80): on leaving and on entering AUTO, B and the decay count go to 0. -/
def Dsu.modeChanged (before after : Mode) (d : Dsu) : Dsu :=
  if before = .auto ∨ after = .auto then { d with boost := 0, decay := 0 } else d

/-- The mode a press advances to (R65). -/
def Mode.next : Mode → Mode
  | .eco => .auto | .auto => .boost | .boost => .eco

/-- A mode press taken (R65): the click, the mode, and the change of mode at the DSU, the BGU and the MDU. -/
def State.modePressed (s : State) : State :=
  let m := s.mdu.mode.next
  let t := { s with
    tiu := s.tiu.clickRequest s.clock
    mdu.mode := m
    dsu := s.dsu.modeChanged s.mdu.mode m }
  State.boostChanged s.dsu.boost (t.computeGrant false).formTarget

/-- Doze entry at the DSU (R72). -/
def Dsu.dozeEntry (d : Dsu) : Dsu :=
  { d with
    windowTimer := none, deadTime := none, ring := [], score := 0, level := 0, boost := 0
    unsettled := 0, decay := 0, quiet := 0, pinnedCount := 0 }

/-- The DSU starts its windows at wake (R72): T_fe formed, the first window open and disturbed, the dead time stopped. -/
def State.startWindows (s : State) : State :=
  { s with dsu := Dsu.openWindow s.clock s.mdu.speed s.frontEnd true { s.dsu with deadTime := none } }

/-- A rising crossing (R71): counted, with the dead time started, while the dead time is stopped and a window is open. -/
def Dsu.rise (clk : Nat) (d : Dsu) : Dsu :=
  let d := { d with above := true }
  if d.windowTimer.isSome && d.deadTime.isNone then
    { d with count := satAdd 255 d.count 1, deadTime := some clk }
  else d

end Sys2Proof.Machine
end

