-- ==== Sys2Proof/Machine/Dock.lean ====
section
/-! DEFINITION. The DOCK: budget (R38 to R41), run states, credit, converter, charge history (chapter 6):
shared operations. -/

namespace Sys2Proof.Machine

/-! ### Budget (R38 to R41) -/

/-- The dock factor f_D (R39). -/
def dockFactor (t d1 d2 : Int) : Nat :=
  if d2 ≤ d1 then (if t < d2 then 256 else 0)
  else if t ≤ d1 then 256
  else if d2 ≤ t then 0
  else (256 * (d2 - t) / (d2 - d1)).toNat

/-- The capability C in 100 mA units (R39): halved, truncated, while SUPPLY_WEAK is present. -/
def State.capability (s : State) : Nat :=
  let c := s.settings.dock.iDockSet * dockFactor s.db.temp s.settings.dock.tD1 s.settings.dock.tD2 / 256
  if s.has .supplyWeak then c / 2 else c

/-- The pack charge current I_pc in mA (R40). -/
def State.packCharge (s : State) : Nat :=
  match s.pv.pack.state, s.pv.pack.stored with
  | .fresh, some p => p.chargeLimit.toNat * 20
  | .stale, some p => p.chargeLimit.toNat / 2 * 20
  | _, _ => 0

/-- The profile current I_pf in mA (R40). -/
def State.profileCharge (s : State) : Nat :=
  match s.pv.slot with
  | some x => x.profile.maxCharge.toNat * 20
  | none => if s.ccu.passMode then 500 else 0

/-- The target current I_tgt in mA (R40): 0 while the remaining credit is 0. -/
def State.targetCurrent (s : State) : Nat :=
  if s.ccu.credit = 0 then 0 else min s.packCharge (min s.profileCharge (s.capability * 100))

/-- The applied setpoint I_set after a computation (R40); `period` is a dock period expiry. -/
def State.nextSetpoint (period : Bool) (s : State) : Nat :=
  if s.ccu.conv = .off then 0
  else if s.targetCurrent < s.db.iSet then s.targetCurrent
  else if period then min s.targetCurrent (s.db.iSet + 100)
  else s.db.iSet

/-- The ceiling V_ceil in mV (R41). -/
def State.ceiling (s : State) : Nat :=
  match s.pv.pack.state, s.pv.pack.stored, s.pv.slot with
  | .absent, _, _ => 0
  | _, none, _ => 0
  | _, some p, some x =>
    min (p.target.toNat * 10) (min (x.profile.cells.toNat * x.profile.cellMax.toNat) s.settings.dock.vMax)
  | _, some p, none => if s.ccu.passMode then min (p.target.toNat * 10) s.settings.dock.vMax else 0

/-- The figures of one DOCK computation (R39 to R41). -/
def State.dockFigures (period : Bool) (s : State) : DockBudget :=
  { s.db with
    fD := dockFactor s.db.temp s.settings.dock.tD1 s.settings.dock.tD2
    cap := s.capability
    iTgt := s.targetCurrent
    iSet := s.nextSetpoint period
    vCeil := s.ceiling }

/-- One DOCK computation (R38): the figures, and the urgent dock status where the capability falls (R9). -/
def State.dockCompute (period : Bool) (s : State) : State :=
  let t := { s with db := s.dockFigures period }
  if s.capability < s.db.cap then t.requestState true else t

/-! ### Run state (R121, R128, R131, R135) -/

/-- The run is in progress: ACTIVE or SUSPENDED. -/
def RunState.running : RunState → Bool
  | .active => true | .suspended => true | _ => false

/-- A state without an offer or a run. -/
def RunState.atRest : RunState → Bool
  | .undocked => true | .idle => true | .rest => true | _ => false

/-- A frame with D = 1 is on the line. -/
def State.dozeFrameOnLine (s : State) : Bool :=
  match s.liu.line with
  | .sending f => f.doze
  | _ => false

/-- The change into UNDOCKED withdraws the dock status request; one whose frame is on the line leaves at its
end (R6). -/
def State.withdrawState (s : State) : State :=
  { s with
    liu.tx.state := if s.inFlight .state then s.liu.tx.state.map (fun r => { r with renewal := none, leaves := true })
      else none }

/-- The doze notice of a DOCK that enters UNDOCKED while ENTERING is withdrawn, and it dozes at once unless that
notice is on the line (R177). -/
def State.undockedDoze (s : State) : State :=
  if s.ssc.doze = .entering ∧ s.dozeFrameOnLine = false then { s with ssc.doze := .dozing } else s

/-- Pass mode and PROFILE_MISSING end (R123). -/
def State.endPassMode (s : State) : State := State.clearRec .ccu .profileMissing { s with ccu.passMode := false }

/-- The run state changes (R121): the LED's pattern from its beginning (R135), the end of pass mode (R123), and
the urgent dock status, or its withdrawal into UNDOCKED (R6, R9). -/
def State.setRun (r : RunState) (s : State) : State :=
  if s.ccu.run = r then s
  else
    let t := { s with ccu.run := r, tiu.dockLedStep := 0 }
    let t := if r.atRest then t.endPassMode else t
    if r = .undocked then t.withdrawState.undockedDoze else t.requestState true

/-- A cause of suspension holds (R128). -/
def State.suspendCause (s : State) : Bool :=
  s.hasHold ||
    match s.pv.handle.state, s.pv.handle.stored with
    | .fresh, some d => !showsStopped d.motor
    | .stale, some d => !showsStopped d.motor
    | _, _ => false

/-- The suspend test (R128). -/
def State.suspendTest (s : State) : State :=
  if s.ccu.run = .active ∧ s.suspendCause then s.setRun .suspended
  else if s.ccu.run = .suspended ∧ s.suspendCause = false then s.setRun .active
  else s

/-- The starve timer (R127): running while ACTIVE with no credit. -/
def State.starveFollow (s : State) : State :=
  { s with
    ccu.starveTimer := if s.ccu.run = RunState.active ∧ s.ccu.credit = 0 then some (s.ccu.starveTimer.getD s.clock)
      else none }

/-- The converter may be on (R131), and not while DOZING (R178): one more condition of R131, after which the run goes on (DEDUCED,
log 48). -/
def State.converterAllowed (s : State) : Bool :=
  s.ccu.run == .active && s.ccu.credit != 0 && !s.hasHold && !s.hasTrip && s.ssc.doze != .dozing

/-- The converter leaves or becomes OFF (R131, R40). -/
def State.converterFollow (s : State) : State :=
  if s.converterAllowed then
    if s.ccu.conv = .off then { s with ccu.conv := if s.db.vCeil ≤ s.ccu.vout + 50 then Converter.cv else Converter.cc }
    else s
  else { s with ccu.conv := .off, db.iSet := 0 }

/-- A change between DOZING and awake reaches the converter of a DOCK (R178). -/
def State.dozeFollow (s : State) : State := if s.isRole .dock then s.converterFollow else s

/-- What follows a change at the DOCK: the suspend test, the starve timer, a computation and the converter
(R38, R127, R128, R131). -/
def State.dockFollow (s : State) : State :=
  (s.suspendTest.starveFollow.dockCompute false).converterFollow

/-! ### Offers and runs (R123 to R129) -/

/-- The stored pack status's path field (R3), NONE where none is stored. -/
def State.packField (s : State) : PathField :=
  match s.pv.pack.stored with
  | some p => readField p.field
  | none => .none

/-- The three conditions of an offer (R123, R130). -/
def State.canOffer (s : State) : Bool := s.pv.pack.state == .fresh && s.packField == .want && !s.hasTrip

/-- Entry to OFFER (R123): the profile slot examined. -/
def State.enterOffer (s : State) : State :=
  let t := match s.pv.slot with
    | some _ => { s with ccu.strictWait := false }
    | none =>
      if s.settings.dock.strict then { s with ccu.strictWait := true }
      else State.raiseRec .profileMissing { s with ccu.strictWait := false, ccu.passMode := true }
  t.setRun .offer

/-- The OFFER test of IDLE (R123). -/
def State.offerTest (s : State) : State := if s.ccu.run = .idle ∧ s.canOffer then s.enterOffer else s

/-- Entry to IDLE, with the OFFER test that follows it (R123). -/
def State.enterIdle (s : State) : State := (s.setRun .idle).offerTest

/-- The remaining credit R as formed now (R127). -/
def State.formedCredit (s : State) : Half :=
  match s.pv.pack.stored with
  | some p => p.allowance - s.ccu.baseline - s.ccu.delivered
  | none => s.ccu.credit

/-- R is formed (R127). -/
def State.formCredit (s : State) : State := { s with ccu.credit := s.formedCredit }

/-- R found at 32768 or more (R127). -/
def State.creditWrapped (s : State) : Bool := decide (32768 ≤ s.ccu.credit.toNat)

/-- Entry to ACTIVE: a run begins (R125). -/
def State.startRun (s : State) : State :=
  match s.pv.pack.stored with
  | none => s
  | some p =>
    let n := s.ccu.runCounter + 1
    let t := { s with
      ccu.runCounter := n, ccu.runNumber := n, ccu.baseline := p.allowance, ccu.delivered := 0, ccu.frac := 0
      ccu.peak := 0, ccu.startSoc := p.soc, ccu.lastSoc := p.soc, ccu.strictWait := false }
    ((t.formCredit).setRun .active).dockFollow

/-- The record of a run that ends (R134): the remainder for WITHDRAWN and STARVED alone. -/
def Ccu.runRecord (cause : EndCause) (c : Ccu) : RunRecord :=
  ⟨c.runNumber, cause, c.delivered, if cause = .withdrawn ∨ cause = .starved then c.credit else 0, c.startSoc,
    c.lastSoc, c.peak⟩

/-- A record enters the charge history; of nine the oldest leaves (R134). -/
def enterHistory (x : RunRecord) (l : List RunRecord) : List RunRecord :=
  (if 8 ≤ l.length then l.drop (l.length - 7) else l) ++ [x]

/-- The state after a run's end (R129). -/
def EndCause.next : EndCause → RunState
  | .complete => .rest | .undocked => .undocked | _ => .idle

/-- A run ends (R129): converter OFF, the record, the starve timer stopped, the next state with the OFFER test of
IDLE, and the CHARGE_COMPLETE announcement of a COMPLETE end (R151). Nothing where no run is in progress. -/
def State.endRun (cause : EndCause) (s : State) : State :=
  if s.ccu.run.running then
    let t := { s with
      ccu.conv := .off, db.iSet := 0, ccu.starveTimer := none
      ccu.history := enterHistory (s.ccu.runRecord cause) s.ccu.history }
    let t := (t.setRun cause.next).offerTest
    let t := if cause = .complete then t.announce .chargeComplete 2 else t
    t.dockFollow
  else s

/-- R formed during a run (R127): a wrapped credit ends it, PACK_RESTART. -/
def State.creditEvent (s : State) : State :=
  let t := s.formCredit
  if t.creditWrapped then t.endRun .packRestart else t.dockFollow

/-! ### Conditions at a DOCK (R139, R140, R143) -/

/-- A DOCK TRIP raised (R124, R129): a run ends DOCK_FAULT, an offer goes to IDLE. -/
def State.dockTrip (s : State) : State :=
  if s.ccu.run.running then s.endRun .dockFault
  else if s.ccu.run = .offer then s.enterIdle
  else s

/-- A raise at a DOCK: a new or re-activated TRIP ends run or offer; every change reaches the suspend test, the
budget and the converter. -/
def State.raiseDock (c : Code) (s : State) : State :=
  let t := s.raiseRec c
  if (s.raising c).isEvent then
    (if c.kind .dock = .trip then t.dockTrip else t).dockFollow
  else t

/-- A removal at a DOCK. -/
def State.removeDock (c : Code) (s : State) : State := if s.has c then (s.dropRec c).dockFollow else s

/-- A clear of a TRIM or HOLD code at a DOCK, from its source (R140). -/
def State.clearDock (b : Block) (c : Code) (s : State) : State :=
  if c.source = b ∧ c.kind .dock ≠ .trip then s.removeDock c else s

/-! ### The PACK entry and the HANDLE entry at a DOCK (R123 to R130) -/

/-- LOST, ABSENT or DOZING (R117, R129). -/
def Freshness.isGone : Freshness → Bool
  | .lost => true | .absent => true | .dozing => true | _ => false

/-- A change of the PACK entry to a state at the CCU (R123, R124, R129, R130); `replaced` when another tag took it. -/
def State.packEntryAtDock (replaced : Bool) (s : State) : State :=
  let st := s.pv.pack.state
  let gone := replaced || st.isGone
  let t :=
    match s.ccu.run with
    | .active => if gone then s.endRun .packLost else s
    | .suspended => if gone then s.endRun .packLost else s
    | .offer => if gone then s.enterIdle else s
    | .rest => if replaced || (st.isGone && st != Freshness.dozing) then s.enterIdle else s
    | .idle => s.offerTest
    | .undocked => s
  t.dockFollow

/-- The path field of an accepted pack status during a run, R formed and not wrapped (R129). -/
def State.fieldInRun (s : State) : State :=
  match s.packField with
  | .full => s.endRun .complete
  | .accept => s.dockFollow
  | _ => s.endRun .withdrawn

/-- An accepted pack status during a run (R126, R127, R129): the last SoC, R, and the path field. -/
def State.statusInRun (p : PackStatus) (s : State) : State :=
  let t := State.formCredit { s with ccu.lastSoc := p.soc }
  if t.creditWrapped then t.endRun .packRestart else t.fieldInRun

/-- An accepted pack status in OFFER (R124). -/
def State.statusInOffer (s : State) : State :=
  match s.packField with
  | .accept => if s.ccu.strictWait then s else s.startRun
  | .want => s
  | _ => s.enterIdle

/-- An accepted pack status at the CCU, read from the PACK entry (R123 to R130). -/
def State.statusAtDock (s : State) : State :=
  match s.pv.pack.stored with
  | none => s.dockFollow
  | some p =>
    State.dockFollow <|
      match s.ccu.run with
      | .active => s.statusInRun p
      | .suspended => s.statusInRun p
      | .offer => s.statusInOffer
      | .rest => if s.canOffer then s.enterOffer else s
      | .idle => s.offerTest
      | .undocked => s

/-- A loading of the profile slot at the CCU (R15, R123, R124): the strict wait and pass mode end, and a stored
ACCEPT begins the run. -/
def State.slotAtDock (s : State) : State :=
  let t := State.endPassMode { s with ccu.strictWait := false }
  (if s.ccu.run = .offer ∧ s.packField = .accept then t.startRun else t).dockFollow

/-! ### Output samples (R126, R131 to R133) -/

/-- Delivered charge at a sample (R126): the fraction, the peak, and one increment where the fraction is full. -/
def Ccu.deliver (iout : Nat) (c : Ccu) : Ccu :=
  let f := c.frac + iout
  let p := max c.peak (min 255 (iout / 100))
  if 3600000 ≤ f then { c with frac := f - 3600000, peak := p, delivered := c.delivered + 1 }
  else { c with frac := f, peak := p }

/-- Delivered charge counted while a run is in progress; an increment forms R (R126, R127). -/
def State.countDelivered (iout : Nat) (s : State) : State :=
  if s.ccu.run.running then
    let t := { s with ccu := s.ccu.deliver iout }
    if 3600000 ≤ s.ccu.frac + iout then t.creditEvent else t
  else s

/-- OUTPUT_OVERVOLTAGE judged at a sample (R132). -/
def State.judgeOvervoltage (s : State) : State :=
  if s.db.vCeil + 500 < s.ccu.vout then
    if s.ccu.conv = .off then s else s.raiseDock .outputOvervoltage
  else s.latchRec .ccu .outputOvervoltage

/-- CC and CV judged at a sample (R131). -/
def State.judgeMode (s : State) : State :=
  let high := decide (s.db.vCeil ≤ s.ccu.vout + 50)
  match s.ccu.conv with
  | .off => s
  | .cc => if high then { s with ccu.conv := .cv } else s
  | .cv => if s.db.iSet ≤ s.ccu.iout ∧ high = false then { s with ccu.conv := .cc } else s

/-- SUPPLY_WEAK judged at a sample taken with the converter on or OFF (R133). -/
def State.judgeSupply (on : Bool) (s : State) : State :=
  let low := decide (s.ccu.vin < s.settings.dock.supplyWeak)
  if s.has .supplyWeak then
    if low then (if on then { s with ccu.weakTimer := none } else s)
    else { s with ccu.weakTimer := some (s.ccu.weakTimer.getD s.clock) }
  else if on then
    let t := { s with ccu.weakCount := if low then satAdd 20 s.ccu.weakCount 1 else 0 }
    if t.ccu.weakCount = 20 then t.raiseDock .supplyWeak else t
  else s

/-- A dock output sample (R126): the count, then OUTPUT_OVERVOLTAGE, CC and CV, and SUPPLY_WEAK (log 24). -/
def State.dockSample (vout iout vin : Nat) (s : State) : State :=
  let t := { s with ccu.vout := vout, ccu.iout := iout, ccu.vin := vin }
  ((t.countDelivered iout).judgeOvervoltage.judgeMode).judgeSupply (s.ccu.conv != .off)

/-- DOCK_HOT and DOCK_OVERHEAT judged at a reading (R133), DOCK_HOT first (DESIGN CHOICE, log 7). -/
def State.judgeDockTemp (s : State) : State :=
  let t := s.db.temp
  let u :=
    if s.settings.dock.tD1 ≤ t then s.raiseDock .dockHot
    else if t < s.settings.dock.tD1 - 5 then s.clearDock .ccu .dockHot
    else s
  if s.settings.dock.tD2 ≤ t then u.raiseDock .dockOverheat
  else if t < s.settings.dock.tD2 - 5 then u.clearDock .ccu .dockOverheat
  else u

end Sys2Proof.Machine
end

