-- ==== Sys2Proof/Machine/Pack.lean ====
section
/-! DEFINITION. The PACK: budget (R25 to R30), cell monitor, switches and protection (chapter 5), gauge and path
field (chapters 5 and 6): shared operations. -/

namespace Sys2Proof.Machine

/-! ### Factors (R26, R27, R29) -/

/-- The voltage factor f_V (R26). -/
def voltageFactor (vmin cut soft : Nat) : Nat :=
  if soft ≤ cut then (if cut < vmin then 256 else 0)
  else if soft ≤ vmin then 256
  else if vmin ≤ cut then 0
  else 256 * (vmin - cut) / (soft - cut)

/-- The temperature factor f_T (R27). -/
def temperatureFactor (t cold hot1 hot2 : Int) : Nat :=
  if t < cold then 64
  else if hot2 ≤ hot1 then (if t < hot2 then 256 else 0)
  else if t ≤ hot1 then 256
  else if hot2 ≤ t then 0
  else (256 * (hot2 - t) / (hot2 - hot1)).toNat

/-- The charge factor f_C (R29). -/
def chargeFactor (t low high : Int) : Nat :=
  if high < low then 0
  else if t < low ∨ high < t then 0
  else if t < low + 10 then 128
  else 256

/-- The charge voltage target in 10 mV units (R30). -/
def chargeTarget (cells cellMax health : Nat) : Nat :=
  (cells * cellMax - (if health < 80 then 50 * cells else 0)) / 10

/-! ### Readings -/

/-- The discharge current: the latest sample when positive (R91). -/
def Cmu.discharge (c : Cmu) : Nat := c.current.toNat

/-- The charge current: the magnitude of the latest sample when negative (R91). -/
def Cmu.charge (c : Cmu) : Nat := (-c.current).toNat

/-- A HOLD or TRIP whose scope includes discharge is present (R94). -/
def State.dischargeHeld (s : State) : Bool := Machine.dischargeHeld .pack s.cdu

/-- A HOLD or TRIP whose scope includes charge is present (R98). -/
def State.chargeHeld (s : State) : Bool := Machine.chargeHeld .pack s.cdu

/-! ### Budget computation (R25 to R30) -/

/-- The figures of one PACK computation (R26 to R30). -/
def State.packFigures (s : State) : PackBudget :=
  let p := s.settings.pack
  let fV := voltageFactor s.cmu.vmin p.cellMin p.vSoft
  let fT := temperatureFactor s.pb.temp p.tCold p.tHot1 p.tHot2
  let fC := chargeFactor s.pb.temp p.tChgLow p.tChgHigh
  let iDis := p.maxDischarge * min fV fT / 256
  { s.pb with
    fV := fV, fT := fT, fC := fC, iDis := iDis
    dischargeLimit := if s.cmu.dsw = .on then iDis else 0
    chargeLimit := if s.chargeHeld then 0 else p.maxCharge * fC / 256
    target := chargeTarget p.cellCount p.cellMax s.gauge.health }

/-- The computation at the BGU (R25): the figures, CHARGE_TEMP_REFUSED (R29), and the urgent pack status where a
published limit falls (R9). No computation comes before the first sweep completion after start-up. -/
def State.packNumbers (s : State) : State :=
  if s.cmu.swept then
    let b := s.packFigures
    let t := { s with pb := b }
    let t := if b.fC = 0 then t.raiseRec .chargeTempRefused else t.clearRec .bgu .chargeTempRefused
    if b.dischargeLimit < s.pb.dischargeLimit ∨ b.chargeLimit < s.pb.chargeLimit then t.requestState true else t
  else s

/-! ### Discharge switch (R94 to R97) -/

/-- The discharge switch changes state (R94): its timers (R95, R96, R102), the urgent pack status (R9), and the
BGU's computation (R25). -/
def State.setDsw (d : Dsw) (s : State) : State :=
  if s.cmu.dsw = d then s
  else
    let t := { s with
      cmu.dsw := d
      cmu.shedTimer := if d = Dsw.cutPending then some s.clock else none
      cmu.overdrawTimer := none
      cmu.recoveryTimer := if d = Dsw.off ∧ s.has .overdraw = true then some s.clock else s.cmu.recoveryTimer }
    (t.requestState true).packNumbers

/-- The discharge switch at a raise of discharge scope (R95, R103): ON goes to CUT_PENDING, SHORT takes it to OFF. -/
def State.cutSwitch (c : Code) (s : State) : State :=
  if c = .short then s.setDsw .off else if s.cmu.dsw = .on then s.setDsw .cutPending else s

/-- The discharge switch at a removal of discharge scope (R96, R97): ON where none is left. -/
def State.freeSwitch (s : State) : State := if s.dischargeHeld then s else s.setDsw .on

/-- The release conditions of a LATCHED CELL_LOW (R101). -/
def State.cellLowReleases (s : State) : Bool :=
  s.path.field == .accept && decide (100 ≤ s.cmu.charge) && decide (s.settings.pack.cellMin + 200 < s.cmu.vmin)

/-- A TRIP kept ACTIVE by a dip, at the first event that judges it and does not find its cause gone: it is re-raised, and
its count counts (R137, R139; log 40). -/
def State.rejudge (c : Code) (s : State) : State :=
  if s.cmu.kept.contains c ∧ hasActive s.cdu c then
    { s.raiseRec c with cmu.kept := s.cmu.kept.filter (fun x => x != c) }
  else s

/-- The CMU finds the cause of a TRIP gone (R99, R140): an ACTIVE record becomes LATCHED, and is judged. -/
def State.causeGone (c : Code) (s : State) : State :=
  if hasActive s.cdu c then { s.latchRec .cmu c with cmu.kept := s.cmu.kept.filter (fun x => x != c) } else s

/-- CELL_LOW judged at a BGU computation (R101): raised at f_V = 0, by R99 or after a dip by R137; latched at f_V above 0,
and then released where the conditions hold. -/
def State.judgeCellLow (s : State) : State :=
  if s.pb.fV = 0 then
    if hasActive s.cdu .cellLow then s.rejudge .cellLow
    else (((s.raiseRec .cellLow).askWake).packNumbers).cutSwitch .cellLow
  else
    let t := s.causeGone .cellLow
    if t.has .cellLow ∧ t.cellLowReleases then ((t.dropRec .cellLow).packNumbers).freeSwitch else t

/-- A computation and the CELL_LOW judgement that follows it (R25, R101). -/
def State.packLite (s : State) : State := if s.cmu.swept then s.packNumbers.judgeCellLow else s

/-! ### Charge switch (R98) -/

/-- The charge switch should be closed (R98). -/
def State.cswWanted (s : State) : Bool := s.path.field == .accept && !s.chargeHeld

/-- The charge switch follows (R98): a change requests the pack status urgently and is a computation; an opening
is timed. -/
def State.cswFollow (s : State) : State :=
  if s.cmu.csw = s.cswWanted then s
  else
    let t := { s with
      cmu.csw := s.cswWanted
      cmu.cswOpenedAt := if s.cswWanted then s.cmu.cswOpenedAt else s.clock }
    (t.requestState true).packLite

/-! ### Path field (R114 to R117) -/

/-- State of charge in half-percent (R109). -/
def Gauge.soc (g : Gauge) : Nat := min 200 (200 * g.qRem / g.full)

/-- The resting choice (R115). -/
def State.resting (s : State) : PathField :=
  if s.pv.dock.state ≠ .fresh ∧ s.pv.dock.state ≠ .dozing then .none
  else if s.pb.chargeLimit = 0 then .refuse
  else if s.path.fullFlag = true ∨ 190 ≤ s.gauge.soc then .full
  else .want

/-- A removal of a record of this code at a PACK: the list, a computation where it had a scope, and the discharge
switch (R25, R96, R97, R140). -/
def State.dropScoped (c : Code) (s : State) : State :=
  if s.has c then
    let t := s.dropRec c
    let t := if c.scope .pack = .none then t else t.packLite
    if (c.scope .pack).discharges then t.freeSwitch else t
  else s

/-- The path field changes (R114): the urgent pack status; leaving ACCEPT drops the noted run and stops the full
timer (R117); WANT against a DOZING dock asks for a wake pulse and wakes a dozing PACK (R115); ACCEPT releases a
LATCHED SHORT (R103); the charge switch follows (R98). -/
def State.setPath (p : PathField) (s : State) : State :=
  if s.path.field = p then s
  else
    let t := { s with
      path.field := p
      path.notedRun := if s.path.field = PathField.accept then none else s.path.notedRun
      path.fullTimer := if s.path.field = PathField.accept then none else s.path.fullTimer }
    let t := if p = .want ∧ s.pv.dock.state = .dozing then t.requestWakePulse.wakeCause.askWake else t
    let t := t.requestState true
    let t := if p = .accept ∧ hasLatched t.cdu .short then t.dropScoped .short else t
    t.cswFollow

/-- The resting choice is made while the field is other than ACCEPT (R115). -/
def State.makeRestingChoice (s : State) : State := if s.path.field = .accept then s else s.setPath s.resting

/-- The path field leaves ACCEPT by the resting choice (R117). -/
def State.leaveAccept (s : State) : State := if s.path.field = .accept then s.setPath s.resting else s

/-- The published charge limit against its value before an event (R115, R117): a change between 0 and above 0 makes
the resting choice, and a fall to 0 leaves ACCEPT. -/
def State.limitFollow (before : Nat) (s : State) : State :=
  if before = 0 ∧ 0 < s.pb.chargeLimit then s.makeRestingChoice
  else if 0 < before ∧ s.pb.chargeLimit = 0 then s.makeRestingChoice.leaveAccept
  else s

/-- One PACK BGU computation as an event at all its readers (R25, R101, R115, R117). -/
def State.computePack (s : State) : State := s.packLite.limitFollow s.pb.chargeLimit

/-! ### Conditions at a PACK (R99, R139, R140) -/

/-- A raise at a PACK: a new or re-activated HOLD or TRIP is a cell fault (R113), a computation (R25), and reaches
the switches its scope covers (R95, R98). -/
def State.raisePack (c : Code) (s : State) : State :=
  let t := s.raiseRec c
  if (s.raising c).isEvent ∧ c.kind .pack ≠ .trim then
    let t := t.askWake.packLite
    let t := if (c.scope .pack).discharges then t.cutSwitch c else t
    State.limitFollow s.pb.chargeLimit t.cswFollow
  else t

/-- A raise by the convention of R99: an ACTIVE record is left as it is, but for one kept by a dip and not judged since
(R137). -/
def State.raiseFresh (c : Code) (s : State) : State := if hasActive s.cdu c then s.rejudge c else s.raisePack c

/-- A removal at a PACK (R96 to R98, R140). -/
def State.removePack (c : Code) (s : State) : State :=
  if s.has c then State.limitFollow s.pb.chargeLimit (s.dropScoped c).cswFollow else s

/-- A clear of a TRIM or HOLD code at a PACK, from its source (R140). -/
def State.clearPack (b : Block) (c : Code) (s : State) : State :=
  if c.source = b ∧ c.kind .pack ≠ .trip then s.removePack c else s

/-! ### Gauge (R107 to R111) -/

/-- Health in percent (R109). -/
def healthOf (full rated : Nat) : Nat := min 100 (100 * full / rated)

/-- The state of charge against its value before an event (R109, R119): below 190 the FULL flag is cleared, and a
change of the flag or across 190 makes the resting choice (R115). -/
def State.socFollow (before : Nat) (s : State) : State :=
  if s.gauge.soc = before then s
  else
    let clears := s.path.fullFlag && decide (s.gauge.soc < 190)
    let t := if clears then { s with path.fullFlag := false } else s
    if clears = true ∨ decide (190 ≤ before) ≠ decide (190 ≤ s.gauge.soc) then t.makeRestingChoice else t

/-- The profile revision counts up by 1, mod 16, and the profile is requested (R10, R110, R111). -/
def State.nextRevision (s : State) : State :=
  State.requestProfile { s with gauge.revision := s.gauge.revision + 1 }

/-- A discharge step (R108), with the fraction already carried; at Q_rem 0 the fraction is set to 0. -/
def Gauge.dischargeStep (g : Gauge) : Gauge :=
  { g with
    frac := if g.qRem = 0 then 0 else g.frac
    qRem := g.qRem - 1
    dFull := satAdd 65535 g.dFull 1
    dCyc := satAdd 65535 g.dCyc 1 }

/-- The cycle count at a discharge step (R111). -/
def State.countCycle (s : State) : State :=
  if s.gauge.full ≤ s.gauge.dCyc then
    State.nextRevision { s with gauge.cycles := satAdd 65535 s.gauge.cycles 1, gauge.dCyc := 0 }
  else s

/-- Granted less taken (R120), each mod 65536, in signed arithmetic. -/
def PathState.ahead (p : PathState) : Int :=
  ((p.allowance - p.baseAllowance).toNat : Int) - ((p.received - p.baseReceived).toNat : Int)

/-- The grant test made until it fails (R120). After 65536 grants the allowance has come round to where it began and every
test has held, so none will fail: the spec states no allowance then, and it is free (log 21). -/
def grantLoop (step : Nat) : Nat → PathState → PathState
  | 0, p => { p with allowance := Config.allowanceWithoutEnd p.allowance step }
  | n + 1, p =>
    if p.ahead < ((step / 2 : Nat) : Int) then
      grantLoop step n { p with allowance := p.allowance + BitVec.ofNat 16 step }
    else p

/-- The grant test (R120), in ACCEPT while a run is noted. -/
def State.grant (s : State) : State :=
  if s.path.field = .accept ∧ s.path.notedRun.isSome then
    { s with path := grantLoop s.settings.pack.grantStep 65536 s.path }
  else s

/-- A charge step (R108, R114): Q_rem, learn armed, warn armed, and received with its grant test. -/
def State.chargeStep (s : State) : State :=
  State.grant { s with
    gauge.qRem := satAdd 65535 s.gauge.qRem 1
    gauge.learnArmed := false
    gauge.warnArmed := true
    path.received := s.path.received + 1 }

/-- The gauge at a current sample (R108), in mA, positive in the discharge direction. -/
def State.gaugeSample (i : Int) (s : State) : State :=
  let f := s.gauge.frac - i
  if f < 0 then
    let t := { s with gauge := Gauge.dischargeStep { s.gauge with frac := f + 3600000 } }
    State.socFollow s.gauge.soc t.countCycle
  else if 3600000 ≤ f then
    State.socFollow s.gauge.soc (State.chargeStep { s with gauge.frac := f - 3600000 })
  else { s with gauge.frac := f }

/-- The learned capacity (R110, steps 1 to 3). -/
def learnedFull (dFull reserve full rated : Nat) : Nat :=
  let a := max (full - full / 10) (min (full + full / 10) (dFull + reserve))
  max (rated / 2) (min (rated * 11 / 10) a)

/-- A learning (R110): F, the revision, learn armed, health. The change of F is an event at the state of charge (R109),
and a change of health is a computation (R25). -/
def State.learn (s : State) : State :=
  let f := learnedFull s.gauge.dFull s.settings.pack.reserve s.gauge.full s.settings.pack.rated
  let h := healthOf f s.settings.pack.rated
  let t := { s with gauge.full := f, gauge.learnArmed := false, gauge.health := h }
  let t := t.nextRevision.socFollow s.gauge.soc
  if h = s.gauge.health then t else t.computePack

/-- The empty anchor (R109): at a raise of CELL_LOW_WARN while warn armed is set, the learning with its change of the
state of charge, and then the change of Q_rem with its own. -/
def State.emptyAnchor (s : State) : State :=
  if s.gauge.warnArmed then
    let t := { s with gauge.warnArmed := false }
    let t := if t.gauge.learnArmed then t.learn else t
    let q := min t.gauge.qRem t.settings.pack.reserve
    let u := { t with
      gauge.qRem := q
      gauge.frac := if q = t.gauge.qRem then t.gauge.frac else 0 }
    u.socFollow t.gauge.soc
  else s

/-- A cell record at the FULL anchor (R109): highest and lowest at the present voltage. -/
def CellRecord.atFull (c : CellRecord) : CellRecord := { c with highest := some c.voltage, lowest := some c.voltage }

/-- The FULL decision (R109, R118): the path field, the flag and the gauge's FULL anchor. The changes of the flag and of
the state of charge in it make no resting choice of their own (DESIGN CHOICE, log 39). -/
def State.decideFull (s : State) : State :=
  let t := { s with
    path.fullFlag := true
    gauge.qRem := s.gauge.full
    gauge.frac := 0
    gauge.dFull := 0
    gauge.learnArmed := true
    cmu.cells := s.cmu.cells.map CellRecord.atFull }
  t.setPath .full

/-! ### Sweeps (R89, R90, R92, R93) -/

/-- The largest of a list of readings. -/
def maxOf : List Nat → Nat
  | [] => 0
  | x :: xs => xs.foldl max x

/-- The least of a list of readings. -/
def minOf : List Nat → Nat
  | [] => 0
  | x :: xs => xs.foldl min x

/-- A cell record at a completion (R90): the time bled in milliseconds, and the reading. -/
def CellRecord.update (bled : Nat) (v : Nat) (c : CellRecord) : CellRecord :=
  let ms := c.bleedMillis + bled
  { voltage := v
    bleedSeconds := satAdd 65535 c.bleedSeconds (ms / 1000)
    bleedMillis := ms % 1000
    highest := some (match c.highest with | none => v | some h => max h v)
    lowest := some (match c.lowest with | none => v | some l => min l v) }

/-- Every record at a completion (R90), cell `i` first; a reading that is missing leaves its record. -/
def updateCells (balance : List Nat) (elapsed : Nat) : Nat → List Nat → List CellRecord → List CellRecord
  | _, _, [] => []
  | _, [], cs => cs
  | i, v :: vs, c :: cs =>
    CellRecord.update (if balance.contains i then elapsed else 0) v c :: updateCells balance elapsed (i + 1) vs cs

/-- The voltage of cell `i`, from 1. -/
def cellVoltage (cells : List CellRecord) (i : Nat) : Nat := ((cells[i - 1]?).map (·.voltage)).getD 0

/-- The best cell to join among candidates (R92): the highest voltage, the lower index first. -/
def bestCell (cells : List CellRecord) : List Nat → Option Nat
  | [] => none
  | i :: is =>
    match bestCell cells is with
    | none => some i
    | some j => if cellVoltage cells j ≤ cellVoltage cells i then some i else some j

/-- Free places of the balance set are filled (R92 step 3), at most `n` joining. -/
def fillBalance (cells : List CellRecord) (floor : Nat) : Nat → List Nat → List Nat
  | 0, set => set
  | n + 1, set =>
    let free := (List.range cells.length).map (· + 1) |>.filter
      (fun i => !set.contains i && decide (floor ≤ cellVoltage cells i) && decide (3900 ≤ cellVoltage cells i))
    match bestCell cells free with
    | none => set
    | some i => fillBalance cells floor n (set ++ [i])

/-- The balance set after a completion (R92). -/
def reviseBalance (cells : List CellRecord) (vmin threshold discharge : Nat) (set : List Nat) : List Nat :=
  if 500 < discharge then []
  else
    let kept := set.filter (fun i => decide (vmin + threshold / 2 < cellVoltage cells i))
    fillBalance cells (vmin + threshold) (3 - kept.length) kept

/-- Steps 1, 2 of a completion at the CMU (R89, R90). The time since the last completion is taken in whole milliseconds,
the rest dropped (DESIGN CHOICE, log 38). -/
def State.readCells (voltages : List Nat) (s : State) : State :=
  let elapsed := match s.cmu.lastSweep with
    | none => 0
    | some t => (s.clock - t) / 1000
  let v := voltages.take s.settings.pack.cellCount
  { s with
    cmu.cells := updateCells s.cmu.balance elapsed 1 v s.cmu.cells
    cmu.vmin := minOf v
    cmu.vmax := maxOf v
    cmu.swept := true
    cmu.sweeping := false
    cmu.lastSweep := some s.clock }

/-- CELL_HIGH judged at a completion (R105). -/
def State.judgeCellHigh (s : State) : State :=
  let top := s.settings.pack.cellMax
  let t := { s with cmu.highCount := if top + 50 ≤ s.cmu.vmax then satAdd 3 s.cmu.highCount 1 else 0 }
  let t := if t.cmu.highCount = 3 then t.raiseFresh .cellHigh else t
  if s.cmu.vmax < top + 50 then
    let t := t.causeGone .cellHigh
    if s.cmu.vmax + 100 < top ∧ hasLatched t.cdu .cellHigh then t.removePack .cellHigh else t
  else t.rejudge .cellHigh

/-- CELL_LOW_WARN judged at a completion (R100), each raise an event at the gauge (R109). -/
def State.judgeCellLowWarn (s : State) : State :=
  let soft := s.settings.pack.vSoft
  if s.cmu.vmin < soft then
    if s.has .cellLowWarn then s else (s.raisePack .cellLowWarn).emptyAnchor
  else if soft + 50 ≤ s.cmu.vmin then s.clearPack .cmu .cellLowWarn
  else s

/-- CELL_IMBALANCE judged at a completion (R93). -/
def State.judgeImbalance (s : State) : State :=
  let spread := s.cmu.vmax - s.cmu.vmin
  if s.has .cellImbalance then if spread ≤ 100 then s.clearPack .cmu .cellImbalance else s
  else if 150 < spread then
    match s.cmu.imbalanceTimer with
    | none => { s with cmu.imbalanceTimer := some s.clock }
    | some t =>
      if 60000000 ≤ s.clock - t then State.raisePack .cellImbalance { s with cmu.imbalanceTimer := none } else s
  else { s with cmu.imbalanceTimer := none }

/-- The first cause of CHARGE_OVERRUN (R106): charge current through a switch open for at least 10 ms before the
latest sample. -/
def State.overrunCause (s : State) : Bool :=
  !s.cmu.csw && decide (s.cmu.cswOpenedAt + 10000 ≤ s.cmu.currentAt) && decide (100 ≤ s.cmu.charge)

/-- CHARGE_OVERRUN judged at a completion (R106). -/
def State.judgeOverrun (s : State) : State :=
  if s.overrunCause then s.raiseFresh .chargeOverrun
  else if s.cmu.charge < 100 then s.causeGone .chargeOverrun
  else s.rejudge .chargeOverrun

/-- The conditions of the FULL decision (R118), the dock status read by R3. -/
def State.fullHolds (s : State) : Bool :=
  s.path.field == .accept && s.cmu.csw
    && (match s.pv.dock.stored with
        | none => false
        | some d => readRun d.run == .active && readConverter d.conv == .cv)
    && decide (s.cmu.charge < s.settings.pack.iTerm) && decide (s.settings.pack.cellMax ≤ s.cmu.vmax + 20)

/-- The full timer and the FULL decision at a completion (R118). -/
def State.judgeFull (s : State) : State :=
  if s.fullHolds then
    match s.path.fullTimer with
    | none => { s with path.fullTimer := some s.clock }
    | some t => if 30000000 ≤ s.clock - t then s.decideFull else s
  else { s with path.fullTimer := none }

/-- The balance set revised at a completion (R92). -/
def State.reviseSet (s : State) : State :=
  let set := reviseBalance s.cmu.cells s.cmu.vmin s.settings.pack.balanceThreshold s.cmu.discharge s.cmu.balance
  { s with cmu.balance := set }

/-- A sweep completion (R89): the steps in order, the FULL decision, and the BGU's computation. -/
def State.sweepDone (voltages : List Nat) (s : State) : State :=
  let s := s.readCells voltages
  let s := s.judgeCellHigh.judgeCellLowWarn.judgeImbalance
  s.reviseSet.judgeOverrun.judgeFull.computePack

/-! ### Samples and readings (R91, R102 to R104) -/

/-- The overdraw threshold in mA (R102). -/
def State.overdrawThreshold (s : State) : Nat := s.pb.iDis * 125 + 1000

/-- The overdraw timer at a sample (R102). -/
def State.overdrawSample (s : State) : State :=
  if s.cmu.dsw = .on then
    if s.overdrawThreshold < s.cmu.discharge then
      { s with cmu.overdrawTimer := match s.cmu.overdrawTimer with
        | none => some s.clock
        | some t => some t }
    else { s with cmu.overdrawTimer := none }
  else s

/-- The cause of SHORT is gone at the first sample below the threshold (R103). -/
def State.shortSample (s : State) : State :=
  if s.cmu.discharge < s.settings.pack.shortThreshold * 100 then s.causeGone .short
  else s.rejudge .short

/-- A pack current sample (R91): the gauge, the overdraw timer, SHORT, and the wake cause of 200 mA. -/
def State.packSample (i : Int) (s : State) : State :=
  let t := State.gaugeSample i { s with cmu.current := i, cmu.currentAt := s.clock }
  let t := t.overdrawSample.shortSample
  if 200 ≤ i.natAbs then t.askWake else t

/-- A thermistor reading of the pack (R25, R104): the computation, then PACK_HOT (DESIGN CHOICE,
log 7). -/
def State.packTemp (temp : Int) (s : State) : State :=
  let s := State.computePack { s with pb.temp := temp }
  if s.settings.pack.tHot2 ≤ temp then s.raiseFresh .packHot
  else if temp < s.settings.pack.tHot2 - 5 then s.clearPack .cmu .packHot
  else s

/-! ### Peers at a PACK (R10, R96, R106, R115 to R117) -/

/-- The excess of a dock status over the allowance, mod 65536 (R106). -/
def PathState.excess (p : PathState) (delivered : Half) : Nat :=
  (delivered + p.baseAllowance - p.allowance).toNat

/-- The excess test (R106): a stored status of the noted run showing ACTIVE or SUSPENDED. -/
def State.judgeExcess (d : DockStatus) (s : State) : State :=
  let r := readRun d.run
  if s.path.field = .accept ∧ s.path.notedRun = some d.runNumber ∧ (r = .active ∨ r = .suspended)
      ∧ inRange 21 32767 (s.path.excess d.delivered) = true then
    s.raiseFresh .chargeOverrun
  else s

/-- The base figures are noted and the noted run dropped (R116). -/
def State.noteBase (s : State) : State :=
  { s with
    path.baseAllowance := s.path.allowance
    path.baseReceived := s.path.received
    path.notedRun := none }

/-- A dock status stored, at the path field (R116, R117, R120, R106). -/
def State.pathStatus (d : DockStatus) (s : State) : State :=
  match s.path.field, readRun d.run with
  | .want, .offer => State.setPath .accept { s.noteBase with path.fullTimer := none }
  | .want, .active => State.setPath .accept { s.noteBase with path.fullTimer := none }
  | .accept, .offer => s.noteBase.grant
  | .accept, .active =>
    if s.path.notedRun = none then State.grant { s with path.notedRun := some d.runNumber } else s.judgeExcess d
  | .accept, .suspended =>
    if s.path.notedRun = none then State.grant { s with path.notedRun := some d.runNumber } else s.judgeExcess d
  | .accept, .idle => s.leaveAccept
  | .accept, .rest => s.leaveAccept
  | _, _ => s

/-- The computation of a change of the discharge switch alone, passed on to its other readers (R25, R101, R115). -/
def State.computeAfter (before : Nat) (s : State) : State :=
  if s.cmu.swept then s.judgeCellLow.limitFollow before else s

/-- The discharge switch changes state by an event of its own (R94, R96). -/
def State.moveDsw (d : Dsw) (s : State) : State :=
  if s.cmu.dsw = d then s else (s.setDsw d).computeAfter s.pb.chargeLimit

/-- A draw stored at a PACK (R96): in CUT_PENDING, STOPPED or 500 mA or less opens the switch. -/
def State.drawAtPack (d : Draw) (s : State) : State :=
  if s.cmu.dsw = .cutPending ∧ (showsStopped d.motor = true ∨ d.current.toNat ≤ 50) then s.moveDsw .off else s

end Sys2Proof.Machine
end

