-- ==== Sys2Proof/Machine/Peers.lean ====
section
/-! DEFINITION. The peer view (R2, R13 to R20): filing of accepted notices, aging, and what the blocks of each
role do at an acceptance or a change of an entry. -/

namespace Sys2Proof.Machine

/-! ### Conditions at any role -/

/-- A raise at the die's role. -/
def State.raiseAny (c : Code) (s : State) : State :=
  match s.role with
  | some .handle => s.raiseHandle c
  | some .pack => s.raisePack c
  | some .dock => s.raiseDock c
  | none => s

/-- A removal of a record at the die's role. -/
def State.removeAny (c : Code) (s : State) : State :=
  match s.role with
  | some .handle => s.removeHandle c
  | some .pack => s.removePack c
  | some .dock => s.removeDock c
  | none => s

/-- A clear of a TRIM or HOLD code at the die's role, from its source (R140). -/
def State.clearAny (b : Block) (c : Code) (s : State) : State :=
  if c.source = b ∧ c.kind s.roleD ≠ .trip then s.removeAny c else s

/-- A refusal or an own-role notice (R18): the quiet count goes to 0 and ROLE_CLASH is raised. -/
def State.roleClash (s : State) : State := State.raiseAny .roleClash { s with pv.quietCount := 0 }

/-- A notice of the die's own role (R2). -/
def State.ownRole (s : State) : State := State.roleClash { s with pv.ownClash := satAdd 255 s.pv.ownClash 1 }

/-! ### Filing (R14, R16) -/

/-- What an accepted state notice comes to at its entry (R14, R16). -/
inductive Filing where
  /-- It repeats the last sequence of the entry's tag. -/
  | duplicate
  /-- It is stored. -/
  | stored
  /-- It takes the entry: from ABSENT this is the creation. -/
  | replaced
  /-- It is refused. -/
  | clash
  deriving DecidableEq, Repr

/-- The outcome for a sender at an entry (R14, R16). -/
def PeerEntry.judge {α : Type} (h : Sender) (e : PeerEntry α) : Filing :=
  if e.tag = some h.tag then (if e.lastSeq = some h.seq then .duplicate else .stored)
  else match e.state with
    | .fresh => .clash
    | .dozing => .clash
    | _ => .replaced

/-- The state a notice leaves: FRESH, or DOZING with D = 1 (R14). -/
def heardState (doze : Bool) : Freshness := if doze then .dozing else .fresh

/-- The frames missed between two sequences (R14). -/
def missedBetween (last : Option (BitVec 4)) (seq : BitVec 4) : Nat :=
  match last with
  | none => 0
  | some l => (seq - l - 1).toNat

/-- The entry after an accepted state notice (R14, R16). -/
def PeerEntry.file {α : Type} (h : Sender) (n : α) (e : PeerEntry α) : PeerEntry α :=
  match e.judge h with
  | .duplicate => { e with duplicates := satAdd 255 e.duplicates 1, age := 0, state := heardState h.doze }
  | .stored =>
    { e with
      missed := satAdd 65535 e.missed (missedBetween e.lastSeq h.seq)
      lastSeq := some h.seq, stored := some n, age := 0, state := heardState h.doze }
  | .replaced =>
    { e with
      tag := some h.tag, lastSeq := some h.seq, lastProfileSeq := none, missed := 0, duplicates := 0
      stored := some n, age := 0, state := heardState h.doze }
  | .clash => { e with clashes := satAdd 255 e.clashes 1 }

/-- The entry of the profile's own tag after an accepted profile (R15). -/
def PeerEntry.fileProfile (h : Sender) (e : PeerEntry PackStatus) : PeerEntry PackStatus :=
  if e.lastProfileSeq = some h.seq then
    { e with duplicates := satAdd 255 e.duplicates 1, age := 0, state := heardState h.doze }
  else
    { e with
      missed := satAdd 65535 e.missed (missedBetween e.lastProfileSeq h.seq)
      lastProfileSeq := some h.seq, age := 0, state := heardState h.doze }

/-- An entry that becomes ABSENT (R19). -/
def PeerEntry.toAbsent {α : Type} (e : PeerEntry α) : PeerEntry α :=
  { e with tag := none, state := .absent, age := 0, lastSeq := none, lastProfileSeq := none, stored := none }

/-- The state of an age (R19). -/
def stateOfAge (n : Nat) : Freshness := if n ≤ 2 then .fresh else if n ≤ 7 then .stale else if n ≤ 39 then .lost else .absent

/-- The entry after one publish period (R19). -/
def PeerEntry.aged {α : Type} (e : PeerEntry α) : PeerEntry α :=
  match e.state with
  | .absent => e
  | .dozing => e
  | _ => if 39 ≤ e.age then e.toAbsent else { e with age := e.age + 1, state := stateOfAge (e.age + 1) }

/-- The entry at the holder's wake (R20). -/
def PeerEntry.woken {α : Type} (e : PeerEntry α) : PeerEntry α :=
  if e.state = .dozing then { e with state := .stale, age := 3 } else e

/-- The stored revision differs, mod 4, from the valid slot's (R13, R14). At a duplicate the stored status is compared, not
the duplicate's own byte (DESIGN CHOICE, log 16). -/
def State.slotBehind (s : State) : Bool :=
  match s.pv.slot, s.pv.pack.stored with
  | some x, some p => x.profile.revision.extractLsb' 0 2 != p.revision
  | _, _ => false

/-- The slot becomes invalid and the mark clear (R16, R19). -/
def State.dropSlot (s : State) : State := { s with pv.slot := none, pv.behind := false }

/-! ### The PACK entry at a HANDLE (R31, R46, R47, R146) -/

/-- PACK_TRIPPED follows the stored pack status (R146). -/
def State.mirror (s : State) : State :=
  match s.pv.pack.stored with
  | some p => if showsDischargeTrip p then s.raiseHandle .packTripped else s.clearHandle .cdu .packTripped
  | none => s.clearHandle .cdu .packTripped

/-- PACK_LOST at a change of the PACK entry (R47). -/
def State.packLostFollow (s : State) : State :=
  match s.pv.pack.state with
  | .fresh => s.clearHandle .mdu .packLost
  | .lost => if s.mdu.motor = .stopped then s else s.raiseHandle .packLost
  | .absent => if s.mdu.motor = .stopped then s else s.raiseHandle .packLost
  | _ => s

/-- The wake wait ends at the entry's becoming FRESH, with the spin check (R46). -/
def State.endWakeWait (s : State) : State :=
  if s.pv.pack.state = .fresh ∧ s.mdu.wakeWait.isSome then State.spinCheck { s with mdu.wakeWait := none } else s

/-- An acceptance or a change at the PACK entry of a HANDLE, from its state before: PACK_LOST, the mirror where a
status was stored or the entry is gone, the grant, and the wake wait (log 7). -/
def State.packAtHandle (before : Freshness) (stored : Bool) (s : State) : State :=
  let changed := before != s.pv.pack.state
  let t := if changed then s.packLostFollow else s
  let t := if stored || (changed && s.pv.pack.state == .absent) then t.mirror else t
  let t := t.computeGrant false
  if changed then t.endWakeWait else t

/-! ### The DOCK entry at a PACK (R106, R115 to R117) -/

/-- A change of state of the DOCK entry at a PACK: ACCEPT is left, or the resting choice made; the creation stops
the grace timer; becoming ABSENT releases a LATCHED CHARGE_OVERRUN. Becoming DOZING leaves ACCEPT by R115's choice, to
which a DOZING dock is present, against the NONE of R117's table (DEDUCED, log 47). An entry created DOZING, by a dock
status with D = 1, leaves ACCEPT as one that becomes DOZING does, though R117 says that a creation from ABSENT does not
(DESIGN CHOICE, log 49). -/
def State.dockEntryAtPack (before : Freshness) (replaced : Bool) (s : State) : State :=
  let created := replaced && before == .absent
  let t := if created then { s with path.graceTimer := none } else s
  let t := if s.pv.dock.state.isGone || (replaced && !created) then t.leaveAccept else t
  let t := t.makeRestingChoice
  if s.pv.dock.state = .absent ∧ hasLatched t.cdu .chargeOverrun then t.removePack .chargeOverrun else t

/-! ### Changes of state of an entry (R19, R20) -/

/-- The PACK entry changed state without a notice. -/
def State.packChanged (before : Freshness) (s : State) : State :=
  if before = s.pv.pack.state then s
  else match s.role with
    | some .handle => s.packAtHandle before false
    | some .dock => s.packEntryAtDock false
    | _ => s

/-- The DOCK entry changed state without a notice. -/
def State.dockChanged (before : Freshness) (s : State) : State :=
  if before = s.pv.dock.state then s
  else if s.isRole .pack then s.dockEntryAtPack before false else s

/-- The HANDLE entry changed state without a notice (R128). -/
def State.handleChanged (before : Freshness) (s : State) : State :=
  if before = s.pv.handle.state then s
  else if s.isRole .dock then s.dockFollow else s

/-- Every entry moves, and the changes of state reach the blocks. -/
def State.moveEntries (f : PeerEntry PackStatus → PeerEntry PackStatus) (g : PeerEntry Draw → PeerEntry Draw)
    (k : PeerEntry DockStatus → PeerEntry DockStatus) (s : State) : State :=
  let t := { s with pv.pack := f s.pv.pack, pv.handle := g s.pv.handle, pv.dock := k s.pv.dock }
  let t := if t.pv.pack.state = .absent then t.dropSlot else t
  ((t.packChanged s.pv.pack.state).handleChanged s.pv.handle.state).dockChanged s.pv.dock.state

/-- Aging at a publish period expiry (R19). -/
def State.ageEntries (s : State) : State := s.moveEntries PeerEntry.aged PeerEntry.aged PeerEntry.aged

/-- The DOZING entries at the station's wake (R20). -/
def State.wakeEntries (s : State) : State := s.moveEntries PeerEntry.woken PeerEntry.woken PeerEntry.woken

/-! ### Accepted notices (R2, R14 to R16) -/

/-- The last SoC of a run in progress at an acceptance of a pack status, before anything else acts on it (R126, R129). -/
def State.takeSoc (s : State) : State :=
  match s.pv.pack.stored with
  | some p => if s.ccu.run.running then { s with ccu.lastSoc := p.soc } else s
  | none => s

/-- A pack status at the PACK entry of a HANDLE or DOCK. One refused as a clash is no computation of the grant (R31:
DESIGN CHOICE, log 17). -/
def State.filePackStatus (h : Sender) (n : PackStatus) (s : State) : State :=
  let o := s.pv.pack.judge h
  let before := s.pv.pack.state
  let t := { s with pv.pack := s.pv.pack.file h n }
  if o = .clash then t.roleClash
  else
    let t := if o = .replaced then t.dropSlot else t
    let t := { t with pv.behind := t.slotBehind }
    if s.isRole .handle then t.packAtHandle before (o != .duplicate)
    else
      let t := if o = .replaced ∧ before = .absent then t.takeSoc.announce .docked 1 else t.takeSoc
      let t := if o = .replaced ∨ before ≠ t.pv.pack.state then
          t.packEntryAtDock (o == .replaced && before != .absent)
        else t
      t.statusAtDock

/-- A pack status passed every check (R2, R14, R16). -/
def State.acceptPackStatus (h : Sender) (n : PackStatus) (s : State) : State :=
  if s.receives then
    let t := s.countAccepted h.tag
    if s.isRole .pack then t.ownRole else t.filePackStatus h n
  else s

/-- A profile of the PACK entry's own tag loads the slot (R15): the slot is invalid or of another revision. R15
makes no exception of a duplicate (DEDUCED, log 16). -/
def State.loads (n : PackProfile) (s : State) : Bool :=
  match s.pv.slot with
  | none => true
  | some x => x.profile.revision != n.revision

/-- A pack profile at the PACK entry of a HANDLE or DOCK (R15). -/
def State.fileProfile (h : Sender) (n : PackProfile) (s : State) : State :=
  let before := s.pv.pack.state
  if s.pv.pack.tag = some h.tag then
    let loads := s.loads n
    let t := { s with pv.pack := s.pv.pack.fileProfile h }
    let t := if loads then { t with pv.slot := some ⟨n, h.tag⟩, pv.behind := false } else t
    let changed := before != t.pv.pack.state
    if s.isRole .handle then
      if changed then t.packAtHandle before false else if loads then t.computeGrant false else t
    else
      let t := t.packChanged before
      if loads then t.slotAtDock else t
  else
    match before with
    | .fresh => State.roleClash { s with pv.pack.clashes := satAdd 255 s.pv.pack.clashes 1 }
    | .dozing => State.roleClash { s with pv.pack.clashes := satAdd 255 s.pv.pack.clashes 1 }
    | _ => s

/-- A pack profile passed every check (R2, R15). -/
def State.acceptProfile (h : Sender) (n : PackProfile) (s : State) : State :=
  if s.receives then
    let t := s.countAccepted h.tag
    if s.isRole .pack then t.ownRole else t.fileProfile h n
  else s

/-- A draw at the HANDLE entry of a PACK or DOCK. -/
def State.fileDraw (h : Sender) (n : Draw) (s : State) : State :=
  let o := s.pv.handle.judge h
  let before := s.pv.handle.state
  let t := { s with pv.handle := s.pv.handle.file h n }
  if o = .clash then t.roleClash
  else if s.isRole .pack then
    let t := if o = .replaced then t.requestProfile else t
    if o = .duplicate then t else t.drawAtPack n
  else if o = .duplicate ∧ before = t.pv.handle.state then t else t.dockFollow

/-- A draw passed every check (R2, R14, R16). -/
def State.acceptDraw (h : Sender) (n : Draw) (s : State) : State :=
  if s.receives then
    let t := s.countAccepted h.tag
    if s.isRole .handle then t.ownRole else t.fileDraw h n
  else s

/-- A dock status at the DOCK entry of a HANDLE or PACK. -/
def State.fileDockStatus (h : Sender) (n : DockStatus) (s : State) : State :=
  let o := s.pv.dock.judge h
  let before := s.pv.dock.state
  let t := { s with pv.dock := s.pv.dock.file h n }
  if o = .clash then t.roleClash
  else if s.isRole .handle then
    if o = .replaced ∧ before = .absent then t.announce .docked 1 else t
  else
    let t := if o = .replaced then t.requestProfile else t
    let t := if o = .replaced ∨ before ≠ t.pv.dock.state then t.dockEntryAtPack before (o == .replaced) else t
    if o = .duplicate then t else t.pathStatus n

/-- A dock status passed every check (R2, R14, R16). -/
def State.acceptDockStatus (h : Sender) (n : DockStatus) (s : State) : State :=
  if s.receives then
    let t := s.countAccepted h.tag
    if s.isRole .dock then t.ownRole else t.fileDockStatus h n
  else s

/-! ### Service (R21, R22, R142) -/

/-- A probe or clear is addressed to this die (R21). -/
def State.addressed (x : Target) (s : State) : Bool :=
  match s.role with
  | none => false
  | some r => x.role == roleCode r && (x.tag == 0x0000#16 || x.tag == s.tag)

/-- A probe passed every check (R21). -/
def State.acceptProbe (h : Sender) (x : Target) (record : BitVec 4) (index : Byte) (s : State) : State :=
  if s.receives then
    let t := s.countAccepted h.tag
    if s.addressed x then t.requestReply record index else t
  else s

/-- The six counters at 0 (R22, R172). -/
def State.zeroCounters (s : State) : State :=
  { s with
    liu.sent := 0, liu.lost := 0, liu.givenUp := 0, liu.accepted := 0, liu.rejected := 0, liu.matched := 0 }

/-- A release of a record that is LATCHED now; an ACTIVE one stays (R141, R142). -/
def State.releaseLatched (c : Code) (s : State) : State := if hasLatched s.cdu c then s.removeAny c else s

/-- A service release (R142): every LATCHED record goes, head first. -/
def State.serviceRelease (s : State) : State := (latchedCodes s.cdu).foldl (fun u c => u.releaseLatched c) s

/-- The action of an addressed clear (R22, R172); 0, 6 and 7 have none, and 4 has none but at a DOCK. -/
def State.clearAction (action : BitVec 3) (s : State) : State :=
  match action with
  | 1 => s.zeroCounters
  | 2 => { s.zeroCounters with liu.frozen := true }
  | 3 => { s with liu.frozen := false }
  | 4 => if s.isRole .dock then { s with ccu.history := [], ccu.runCounter := 0 } else s
  | 5 => s.serviceRelease
  | _ => s

/-- A clear passed every check (R21, R22): counted before it acts (R172). -/
def State.acceptClear (h : Sender) (x : Target) (action : BitVec 3) (s : State) : State :=
  if s.receives then
    let t := s.countAccepted h.tag
    if s.addressed x then t.clearAction action else t
  else s

/-- A reply, or a frame of unknown kind, passed every check: counted alone (R1, R2). -/
def State.acceptOther (h : Sender) (s : State) : State := if s.receives then s.countAccepted h.tag else s

/-- An accepted frame routed by its kind (R2). -/
def State.route (r : Received) (s : State) : State :=
  match r with
  | .packStatus h n => s.acceptPackStatus h n
  | .packProfile h n => s.acceptProfile h n
  | .draw h n => s.acceptDraw h n
  | .dockStatus h n => s.acceptDockStatus h n
  | .probe h x record index => s.acceptProbe h x record index
  | .clear h x action => s.acceptClear h x action
  | .reply h => s.acceptOther h
  | .unknown h => s.acceptOther h

end Sys2Proof.Machine
end

