-- ==== Sys2Proof/Machine/Doze.lean ====
section
/-! DEFINITION. Doze and wake (R177 to R179). -/

namespace Sys2Proof.Machine

/-! ### The idle timer (R177) -/

/-- The idle condition of the role (R177). -/
def State.idleCondition (s : State) : Bool :=
  match s.role with
  | some .handle => !s.mdu.trigger && s.mdu.motor == .stopped
  | some .pack => decide (s.cmu.current.natAbs < 50) && s.path.field != .accept
  | some .dock => s.ccu.run.atRest
  | none => false

/-- The idle timer runs in AWAKE while the idle condition holds and A is 0 (R177). -/
def State.idleSettle (s : State) : State :=
  { s with
    ssc.idleTimer := if s.ssc.doze = DozeState.awake ∧ s.idleCondition = true ∧ s.tiu.level = 0 then
        some (s.ssc.idleTimer.getD s.clock)
      else none }

/-! ### Doze entry (R177, R72) -/

/-- A request withdrawn at doze entry: it goes, but one whose frame is on the line leaves at that frame's end. -/
def withdrawn (flying : Bool) (r : Option Request) : Option Request :=
  if flying then r.map (fun x => { x with renewal := none, leaves := true }) else none

/-- The doze notice's request: new, or the renewal of the state notice on the line (R177). -/
def dozeRequest (flying : Bool) (r : Option Request) : Option Request :=
  match flying, r with
  | true, some x => some { x with renewal := some ⟨true, x.record, x.index⟩ }
  | _, _ => some (newRequest true 0 0)

/-- The transmit set at doze entry (R177): at a DOCK in UNDOCKED nothing is requested. -/
def State.dozeSet (s : State) : TransmitSet :=
  { state := if s.publishes then dozeRequest (s.inFlight .state) s.liu.tx.state
      else withdrawn (s.inFlight .state) s.liu.tx.state
    profile := withdrawn (s.inFlight .profile) s.liu.tx.profile
    reply := withdrawn (s.inFlight .reply) s.liu.tx.reply }

/-- Doze entry (R177): the transmit set, ENTERING or DOZING, the period timers stopped, and the DSU's doze entry
with its change of B (R72, R81). -/
def State.dozeEntry (s : State) : State :=
  let t := { s with
    ssc.doze := if s.publishes then DozeState.entering else DozeState.dozing
    ssc.idleTimer := none
    liu.tx := s.dozeSet
    liu.waiting := none
    pv.publishTimer := none
    hb.timer := none
    db.timer := none }
  if s.isRole .handle then State.boostChanged s.dsu.boost { t with dsu := s.dsu.dozeEntry } else t

/-! ### Wake (R179, R20, R72, R113) -/

/-- The awake timers start afresh (R8, R31, R38, R89). -/
def State.wakeTimers (s : State) : State :=
  { s with
    ssc.doze := .awake
    ssc.wakeAsked := false
    pv.publishTimer := some s.clock
    hb.timer := if s.isRole .handle then some s.clock else s.hb.timer
    db.timer := if s.isRole .dock then some s.clock else s.db.timer
    cmu.sweepTimer := if s.isRole .pack then some s.clock else s.cmu.sweepTimer }

/-- The PACK's comparison with the last pack status sent whole (R113). -/
def State.differsFromSent (s : State) : Bool :=
  match s.liu.lastPackStatus with
  | none => true
  | some p => p.dsw != s.cmu.dsw.wire || p.csw != s.cmu.csw || p.field != s.path.field.wire
    || decide (s.pb.dischargeLimit < p.dischargeLimit.toNat)

/-- The PACK at its wake (R10, R113). -/
def State.packWake (s : State) : State :=
  let t := s.requestProfile
  if t.differsFromSent then t.requestState true else t

/-- The rest of a wake, after a press that caused it: the DOZING entries, the requests, the windows, the converter of a
DOCK that dozed (R178), and the wake pulse of a local cause. -/
def State.wakeRest (local_ : Bool) (s : State) : State :=
  let t := s.wakeEntries.requestState false
  let t := if s.isRole .pack then t.packWake else t
  let t := if s.isRole .handle then t.startWindows else t
  let t := t.dozeFollow
  if local_ then t.requestWakePulse else t

/-- A wake from ENTERING or DOZING, with the press that caused it taken before the entries move; awake, the press
alone, its cause noted (R179). -/
def State.wakeWith (local_ : Bool) (press : State → State) (s : State) : State :=
  if s.ssc.doze = .awake then press s.wakeCause else (press s.wakeTimers).wakeRest local_

/-- A wake with no press; nothing where the station is awake. -/
def State.wake (local_ : Bool) (s : State) : State := s.wakeWith local_ id

/-- A local wake cause found inside the event takes effect at its end (R179). -/
def State.wakeIfAsked (s : State) : State := if s.ssc.wakeAsked then State.wake true { s with ssc.wakeAsked := false } else s

end Sys2Proof.Machine
end

