-- ==== Sys2Proof/Machine/Line.lean ====
section
/-! DEFINITION. The line interface unit (chapter 9): capture of own frames (R3 to R6, R23, R24), slots and the
choice of R11 and R167, the ends of a frame (R12, R168), quiet time, wake pulses and the stuck line; and what
ends every event: the displays, the idle timer and the presentation of the first eligible request. -/

namespace Sys2Proof.Machine

/-! ### Capture (R4 to R6, R24) -/

/-- The summary of the die's own list (R4). -/
def State.ownSummary (s : State) : Summary := summaryOf s.roleD s.cdu

/-- The pack status of now (R5, R28). -/
def State.packStatusNow (s : State) : PackStatus where
  voltage := fit16 ((s.cmu.cells.map (·.voltage)).sum / 10)
  current := signed16 (s.cmu.current.tdiv 10)
  dischargeLimit := fit8 (if s.cmu.dsw = Dsw.on then s.pb.iDis else 0)
  chargeLimit := fit8 s.pb.chargeLimit
  target := fit16 s.pb.target
  allowance := s.path.allowance
  soc := fit8 s.gauge.soc
  temperature := signed8 s.pb.temp
  summary := s.ownSummary
  dsw := s.cmu.dsw.wire
  field := s.path.field.wire
  csw := s.cmu.csw
  revision := s.gauge.revision.extractLsb' 0 2

/-- The pack profile of now (R5). -/
def State.packProfileNow (s : State) : PackProfile where
  cells := BitVec.ofNat 4 s.settings.pack.cellCount
  revision := s.gauge.revision
  rated := fit16 (s.settings.pack.rated / 10)
  full := fit16 (s.gauge.full / 10)
  cycles := fit16 s.gauge.cycles
  health := fit8 s.gauge.health
  cellMax := fit16 s.settings.pack.cellMax
  cellMin := fit16 s.settings.pack.cellMin
  maxDischarge := fit8 s.settings.pack.maxDischarge
  maxCharge := fit8 s.settings.pack.maxCharge

/-- The draw of now (R6, R88). -/
def State.drawNow (s : State) : Draw where
  mode := s.mdu.mode.wire
  motor := s.mdu.motor.wire
  trigger := s.mdu.trigger
  head := s.head.output.wire
  speed := fit16 (s.mdu.speed / 100)
  current := fit16 (s.mdu.busCurrent / 10)
  grant := fit16 s.hb.pGrant
  demand := fit16 s.hb.pMode
  level := BitVec.ofNat 4 s.dsu.level
  boost := BitVec.ofNat 4 s.dsu.boost
  summary := s.ownSummary

/-- The dock status of now (R6). -/
def State.dockStatusNow (s : State) : DockStatus where
  run := s.ccu.run.wire
  conv := s.ccu.conv.wire
  voltage := fit16 (s.ccu.vout / 10)
  current := fit16 (s.ccu.iout / 10)
  delivered := s.ccu.delivered
  capability := fit8 s.db.cap
  runNumber := s.ccu.runNumber
  summary := s.ownSummary

/-- The identity record (R24, id 0). Bits 5 to 2 of its first byte, which the table does not list, are sent as 0 (DESIGN
CHOICE, log 42). -/
def State.identityData (s : State) : List Byte :=
  [roleCode s.roleD ++ (0 : BitVec 4) ++ bit s.settingsFailed ++ bit s.dipCause] ++ two s.tag ++ [fit8 s.pv.ownClash]

/-- The counters record (R24, id 1). -/
def State.counterData (s : State) : List Byte :=
  two (fit16 s.liu.sent) ++ two (fit16 s.liu.lost) ++ two (fit16 s.liu.givenUp) ++ two (fit16 s.liu.accepted)
    ++ two (fit16 s.liu.rejected) ++ two (fit16 s.liu.matched)

/-- A record's age in seconds, saturating at 255 (R138). -/
def State.ageOf (x : Record) (s : State) : Nat := min 255 ((s.stamp - x.stamp) / 1000)

/-- A condition record (R24, id 2; R147). -/
def State.conditionData (x : Record) (s : State) : List Byte :=
  let r := s.roleD
  [fit8 x.code.number, BitVec.ofNat 4 (x.code.level r) ++ (x.code.kind r).wire ++ (x.code.scope r).wire,
    fit8 x.count, fit8 (s.ageOf x)]

/-- The HANDLE's role record (R24, id 3). -/
def State.dirtData (s : State) : List Byte :=
  let d := s.dsu
  let t := BitVec.ofNat 32 d.tally
  [BitVec.ofNat 4 d.level ++ BitVec.ofNat 4 d.boost] ++ two (fit16 d.score)
    ++ [fit8 (d.ring.getD 0 0), fit8 (d.ring.getD 1 0), fit8 (d.ring.getD 2 0), fit8 (d.ring.getD 3 0)]
    ++ [t.extractLsb' 24 8, t.extractLsb' 16 8, t.extractLsb' 8 8, t.extractLsb' 0 8]

/-- A cell's role record (R24, id 3), cell `i` from 1; a reading that is none is sent as 0 (R90). Bits 7 to 1 of the
bleeding byte, which the table does not list, are sent as 0 (DESIGN CHOICE, log 42). -/
def State.cellData (i : Nat) (c : CellRecord) (s : State) : List Byte :=
  two (fit16 c.voltage) ++ [if s.cmu.balance.contains i then 1 else 0] ++ two (fit16 c.bleedSeconds)
    ++ two (fit16 (c.highest.getD 0)) ++ two (fit16 (c.lowest.getD 0))

/-- A run's role record (R24, id 3). -/
def runData (x : RunRecord) : List Byte :=
  [x.number, x.cause.wire] ++ two x.delivered ++ two x.remainder ++ [x.startSoc, x.endSoc, fit8 x.peak]

/-- The code of a freshness state (R24, id 4). -/
def Freshness.wire : Freshness → BitVec 3
  | .absent => 0 | .fresh => 1 | .stale => 2 | .lost => 3 | .dozing => 4

/-- A peer entry's record (R24, id 4). Bit 0 of its first byte, which the table does not list, is sent as 0 (DESIGN
CHOICE, log 42). -/
def entryData {α : Type} (r : Role) (valid behind : Bool) (e : PeerEntry α) : List Byte :=
  [roleCode r ++ e.state.wire ++ bit valid ++ bit behind ++ (0 : BitVec 1)] ++ two (e.tag.getD 0) ++ [fit8 e.age]
    ++ two (fit16 e.missed) ++ [fit8 e.clashes, fit8 e.duplicates]

/-- The role record at an index (R23, R24). -/
def State.roleData (i : Nat) (s : State) : Option (List Byte) :=
  match s.role with
  | some .handle => if i = 0 then some s.dirtData else none
  | some .pack => if i = 0 then none else (s.cmu.cells[i - 1]?).map (fun c => s.cellData i c)
  | some .dock => (s.ccu.history[i]?).map runData
  | none => none

/-- The entry record of a role code (R23, R24): none for the die's own role and for 3. -/
def State.peerData (i : Nat) (s : State) : Option (List Byte) :=
  match i with
  | 0 => if s.isRole .handle then none else some (entryData .handle false false s.pv.handle)
  | 1 => if s.isRole .pack then none else some (entryData .pack s.pv.slot.isSome s.pv.behind s.pv.pack)
  | 2 => if s.isRole .dock then none else some (entryData .dock false false s.pv.dock)
  | _ => none

/-- The data of a record, or none where the id and index name none (R23, R24). -/
def State.recordData (id : BitVec 4) (i : Nat) (s : State) : Option (List Byte) :=
  if 15 < i then none
  else match id with
    | 0 => if i = 0 then some s.identityData else none
    | 1 => if i = 0 then some s.counterData else none
    | 2 => (s.cdu[i]?).map (fun x => s.conditionData x)
    | 3 => s.roleData i
    | 4 => s.peerData i
    | _ => none

/-- The payload of a reply (section 1.2, R23). -/
def State.replyNow (id : BitVec 4) (index : Byte) (s : State) : List Byte :=
  (id ++ index.extractLsb' 0 4 : Byte) :: (s.recordData id index.toNat).getD []

/-- The contents of an own frame captured at its first bit (R5, R6, R24). -/
def State.capture (k : SendKind) (r : Request) (s : State) : Body :=
  match k with
  | .state =>
    match s.roleD with
    | .handle => .draw s.drawNow
    | .pack => .packStatus s.packStatusNow
    | .dock => .dockStatus s.dockStatusNow
  | .profile => .packProfile s.packProfileNow
  | .reply => .reply (s.replyNow r.record r.index)

/-! ### Slots and the choice (R11, R167) -/

/-- The parity of the bits of a tag that a mask covers. -/
def parity (h : Half) : Bool := (List.range 16).foldl (fun b i => b != h.getLsbD i) false

/-- The base slot k (R167): bit i from the tag under mask i with bit i set. -/
def baseSlot (tag m0 m1 m2 : Half) : Nat :=
  (if parity (tag &&& (m0 ||| 1)) then 1 else 0) + (if parity (tag &&& (m1 ||| 2)) then 2 else 0)
    + (if parity (tag &&& (m2 ||| 4)) then 4 else 0)

/-- The die's base slot. -/
def State.slotBase (s : State) : Nat :=
  baseSlot s.tag s.settings.common.mask0 s.settings.common.mask1 s.settings.common.mask2

/-- The wait of an attempt in microseconds (R167). -/
def slotMicros (k attempt : Nat) : Nat := ((k + 3 * attempt) % 8 + 1) * 40

/-- A request of the transmit set. -/
def TransmitSet.get (t : TransmitSet) : SendKind → Option Request
  | .state => t.state | .profile => t.profile | .reply => t.reply

/-- The transmit set with a request replaced. -/
def TransmitSet.put (k : SendKind) (r : Option Request) (t : TransmitSet) : TransmitSet :=
  match k with
  | .state => { t with state := r }
  | .profile => { t with profile := r }
  | .reply => { t with reply := r }

/-- A request takes its place in service order: all but a non-urgent state notice held back (R8). -/
def Liu.eligible (l : Liu) (k : SendKind) : Bool :=
  match l.tx.get k with
  | none => false
  | some r => r.urgent || k != .state || l.holdOff.isNone

/-- The request of this kind is urgent. -/
def Liu.isUrgent (l : Liu) (k : SendKind) : Bool := (l.tx.get k).any (·.urgent)

/-- The first eligible request (R11): urgent ones first, then by ascending kind code. -/
def Liu.first (l : Liu) : Option SendKind :=
  let ks := [SendKind.state, .profile, .reply].filter l.eligible
  match ks.find? l.isUrgent with
  | some k => some k
  | none => ks.head?

/-- The sequence counter of a kind (R7). -/
def Liu.seqOf (l : Liu) : SendKind → BitVec 4
  | .state => l.seqState | .profile => l.seqProfile | .reply => l.seqReply

/-- A sequence counter advances (R7). -/
def Liu.nextSeq (k : SendKind) (l : Liu) : Liu :=
  match k with
  | .state => { l with seqState := l.seqState + 1 }
  | .profile => { l with seqProfile := l.seqProfile + 1 }
  | .reply => { l with seqReply := l.seqReply + 1 }

/-- The first bit of a request's frame (R12): contents, U, D and sequence captured; D is 1 on a state notice while
ENTERING (R177). -/
def State.startFrame (k : SendKind) (s : State) : State :=
  match s.liu.tx.get k with
  | none => s
  | some r =>
    let f : OwnFrame := ⟨k, s.capture k r, r.urgent, k == .state && s.ssc.doze == .entering, s.liu.seqOf k⟩
    { s with liu.line := .sending f, liu.waiting := none }

/-- The slot wait of a normal request presented now, or the wait that runs for it (R167). -/
def State.waitFor (k : SendKind) (s : State) : Option SlotWait :=
  match s.liu.waiting with
  | some w => if w.kind = k then some w else some ⟨k, slotMicros s.slotBase ((s.liu.tx.get k).map (·.attempt) |>.getD 0), s.clock⟩
  | none => some ⟨k, slotMicros s.slotBase ((s.liu.tx.get k).map (·.attempt) |>.getD 0), s.clock⟩

/-- The LIU may send: the line quiet and not stuck, and the die not dozing (R164, R166, R178). -/
def State.maySend (s : State) : Bool :=
  s.role.isSome && s.notDozing && !s.has .lineStuck && s.liu.line == .quiet

/-- The contention start (R165, R167): the wake pulse first, then the first eligible request, urgent at once and
normal after its slot wait. Where the LIU may not send, no wait runs. -/
def State.present (s : State) : State :=
  if s.maySend then
    if s.liu.wakeRequest then { s with liu.line := .pulsing, liu.waiting := none }
    else match s.liu.first with
      | none => { s with liu.waiting := none }
      | some k => if s.liu.isUrgent k then s.startFrame k else { s with liu.waiting := s.waitFor k }
  else { s with liu.waiting := none }

/-! ### Displays (R112, R161) -/

/-- The gauge LEDs' number lit for a state of charge (R112). -/
def litFor (soc : Nat) : Nat := min 4 (soc / 50 + 1)

/-- The gauge display as it should stand: LEDs lit and whether they blink (R112, R161). While ENTERING a HANDLE's stay off
at every event (DESIGN CHOICE, log 43). -/
def State.gaugeWanted (s : State) : Nat × Bool :=
  match s.role with
  | some .handle =>
    if s.ssc.doze = .awake ∧ s.tiu.level = 0 then
      match s.pv.pack.state, s.pv.pack.stored with
      | .absent, _ => (0, false)
      | _, none => (0, false)
      | .fresh, some p => (litFor p.soc.toNat, false)
      | _, some p => (litFor p.soc.toNat, true)
    else (0, false)
  | some .pack => if s.tiu.displayTimer.isSome then (litFor s.gauge.soc, s.cmu.dsw != .on) else (0, false)
  | _ => (0, false)

/-- The gauge display set to match; a blink begins with its on phase (R112, R161). -/
def GaugeLeds.follow (w : Nat × Bool) (g : GaugeLeds) : GaugeLeds := ⟨w.1, w.2, w.2 && (!g.blinking || g.phaseOn)⟩

/-- The gauge display follows its sources. -/
def State.displaySettle (s : State) : State := { s with tiu.gauge := s.tiu.gauge.follow s.gaugeWanted }

/-! ### Events -/

/-- What ends every event: a local wake cause found in it, the idle timer, the display, and the contention start. -/
def State.finish (s : State) : State := s.wakeIfAsked.idleSettle.displaySettle.present

/-- A command of a running, configured die: its time passes, its effect, and what ends every event. A die without
supply, before the end of start-up or unconfigured takes no such command (log 1, log 5). -/
def event (dt : Nat) (f : State → State) (s : State) : Answer :=
  if s.power = .running ∧ s.role.isSome then .next (f (s.advance dt)).finish else .next s

/-! ### Ends of an own frame (R7, R12, R168) -/

/-- The request after its frame was sent whole (R12, R6, R177). -/
def afterSent (r : Request) : Option Request :=
  r.renewal.map (fun m => ⟨m.urgent, 0, m.record, m.index, none, false⟩)

/-- The request after its frame lost (R12): a renewal mark merges into the retry; one that leaves, or gives up,
is followed by its renewal alone. -/
def afterLost (r : Request) : Option Request :=
  if r.leaves = true ∨ 7 ≤ r.attempt then afterSent r
  else some {
    urgent := r.urgent || (r.renewal.map (·.urgent)).getD false
    attempt := r.attempt + 1
    record := (r.renewal.map (·.record)).getD r.record
    index := (r.renewal.map (·.index)).getD r.index
    renewal := none
    leaves := false }

/-- The doze notice's end (R177 to R179): ENTERING goes to DOZING, which holds no requests and turns a DOCK's converter
OFF; an awake station requests its state notice urgently. -/
def State.dozeNoticeEnd (s : State) : State :=
  match s.ssc.doze with
  | .entering => State.dozeFollow { s with ssc.doze := .dozing, liu.tx := {} }
  | .awake => s.requestState true
  | .dozing => s

/-- The die's frame is sent whole (R162, R168). -/
def State.sentWhole (f : OwnFrame) (s : State) : State :=
  let l := { s.liu.nextSeq f.kind with
    line := .unsettled
    sent := s.liu.tick s.liu.sent
    tx := s.liu.tx.put f.kind ((s.liu.tx.get f.kind).bind afterSent)
    holdOff := if f.kind = SendKind.state then some s.clock else s.liu.holdOff
    lastPackStatus := match f.body with
      | .packStatus n => some n
      | _ => s.liu.lastPackStatus }
  let t := { s with
    liu := l
    pv.profileCount := if f.kind = SendKind.profile then 0 else s.pv.profileCount }
  let t := t.clearAny .liu .lineCrowded
  if f.doze then t.dozeNoticeEnd else t

/-- The die's frame lost contention (R168): a retry, or at attempt 7 a give-up with LINE_CROWDED. -/
def State.lostFrame (f : OwnFrame) (s : State) : State :=
  let r := s.liu.tx.get f.kind
  let gives := r.any (fun x => decide (7 ≤ x.attempt))
  let leaves := r.any (·.leaves)
  let t := { s with
    liu.line := .receiving false false
    liu.lost := s.liu.tick s.liu.lost
    liu.givenUp := if gives then s.liu.tick s.liu.givenUp else s.liu.givenUp
    liu.tx := s.liu.tx.put f.kind (r.bind afterLost) }
  let t := if gives then t.raiseAny .lineCrowded else t
  if f.doze && (gives || leaves) then t.dozeNoticeEnd else t

/-! ### Quiet time and the line (R164 to R167, R170) -/

/-- The pulses are none of a frame: only glitches, or a wake pulse alone (R163, R165). A wake pulse with further pulses
before the next quiet time is a frame that holds it, and so a malformed one (DESIGN CHOICE, log 34). -/
def noFrame (ps : List Pulse) : Bool :=
  match countedPulses ps with
  | [] => true
  | [p] => pulseClass p.length == .wake
  | _ => false

/-- A frame ends with these pulses: the reception checks, and the routing of an accepted frame (R170, R2). -/
def State.endFrame (malformed : Bool) (ps : List Pulse) (s : State) : State :=
  if noFrame ps then s
  else if malformed then s.countRejected
  else match receptionChecks ps with
    | none => s.countRejected
    | some r => s.route r

/-- Quiet time is reached (R164, R170, R179): it ends the frame in progress. While LINE_STUCK is present the LIU
receives nothing (R166). The frame that woke the station counts as rejected, with LINE_STUCK present too (DESIGN CHOICE,
log 12); a wake pulse counts nothing. -/
def State.quietTime (received : Option (List Pulse)) (s : State) : State :=
  let t := { s with liu.line := .quiet }
  match s.liu.line with
  | .sending _ => s
  | .pulsing => s
  | .unsettled => t
  | .quiet => if s.receives then (match received with | none => t | some ps => t.endFrame false ps) else t
  | .receiving m woke =>
    if woke then (if received.any noFrame then t else t.countRejected)
    else if s.receives then (match received with | none => t | some ps => t.endFrame m ps) else t

/-- Another station's frame begins after quiet time (R167). -/
def State.frameBegins (s : State) : State :=
  if s.receives ∧ s.liu.line = .quiet then { s with liu.line := .receiving false false } else s

/-- A wake pulse is received (R165): inside a frame it makes that frame malformed, else it ends the quiet time. One that
woke the station is not counted, also where the LIU receives nothing (R166): no frame is left for the quiet time to end, so
the pulses that follow before it are dropped uncounted (DESIGN CHOICE, log 34). -/
def State.wakePulse (insideFrame : Bool) (s : State) : State :=
  match s.liu.line with
  | .sending _ => s
  | .pulsing => s
  | .receiving _ woke =>
    if s.receives ∨ woke = true then { s with liu.line := if insideFrame then .receiving true woke else .unsettled }
    else s
  | .quiet => if s.receives then { s with liu.line := if insideFrame then .receiving true false else .unsettled } else s
  | .unsettled => s

/-- A pulse has lasted 2 us (R179): the station wakes, and loses the frame it began. In AWAKE the cause is noted alone.
A frame already being received in ENTERING, a later bit of which this is, is lost with it (DESIGN CHOICE, log 12). -/
def State.lineWakes (s : State) : State :=
  if s.ssc.doze = .awake then s.wakeCause
  else
    let t := State.wake false s
    match t.liu.line with
    | .sending _ => t
    | .pulsing => t
    | _ => { t with liu.line := .receiving false true }

/-- The line has been dominant for 5 ms (R166): a frame being received is rejected, and LINE_STUCK raised. A dominant
stretch that began after quiet time counts as such a frame where its falling edge came as FRAME_BEGINS or woke the station,
and not where the line was still quiet; a line that sticks after the die's own frame lost on it holds such a frame too, which
counts as rejected beside the loss (R164, R168 leave both open: DESIGN CHOICE, log 46). -/
def State.lineSticks (s : State) : State :=
  let t := match s.liu.line with
    | .receiving _ _ => State.countRejected { s with liu.line := .unsettled }
    | .quiet => { s with liu.line := .unsettled }
    | _ => s
  t.raiseAny .lineStuck

/-- The line has been recessive for 1 ms after a stuck period (R166): quiet time is already reached. -/
def State.lineFrees (s : State) : State :=
  if s.has .lineStuck then
    let t := s.clearAny .liu .lineStuck
    match s.liu.line with
    | .sending _ => t
    | _ => { t with liu.line := .quiet }
  else s

end Sys2Proof.Machine
end

