-- ==== Sys2Proof/Machine/CellCommands.lean ====
section
/-! DEFINITION. The meanings of the PACK's commands (chapter 5, R117). At a HANDLE or DOCK the CMU is inert. -/

namespace Sys2Proof.Machine

/-- An effect at a PACK alone. -/
def State.atPack (f : State → State) (s : State) : State := if s.isRole .pack then f s else s

/-- The sweep timer expires (R89): it restarts, and a sweep begins. -/
def State.sweepBegins (s : State) : State :=
  if s.cmu.sweepTimer.isSome then { s with cmu.sweepTimer := some s.clock, cmu.sweeping := true } else s

/-- SWEEP_TIMER_EXPIRY (R89). -/
def execSweepTimerExpiry (dt : Nat) (s : State) : Answer := event dt (State.atPack State.sweepBegins) s

/-- A sweep in progress completes (R89). -/
def State.sweepEnds (voltages : List Nat) (s : State) : State := if s.cmu.sweeping then s.sweepDone voltages else s

/-- SWEEP_COMPLETION (R89, R90, R92, R93, R25). -/
def execSweepCompletion (dt : Nat) (voltages : List Nat) (s : State) : Answer :=
  event dt (State.atPack (State.sweepEnds voltages)) s

/-- CURRENT_SAMPLE (R91, R102, R103, R108). -/
def execCurrentSample (dt : Nat) (current : Int) (s : State) : Answer :=
  event dt (State.atPack (State.packSample current)) s

/-- The overdraw timer reaches 500 ms in ON (R102). -/
def State.overdrawEnds (s : State) : State :=
  if s.cmu.dsw = .on ∧ s.cmu.overdrawTimer.isSome then
    State.raiseFresh .overdraw { s with cmu.overdrawTimer := none }
  else s

/-- OVERDRAW_TIMER_EXPIRY (R102). -/
def execOverdrawTimerExpiry (dt : Nat) (s : State) : Answer := event dt (State.atPack State.overdrawEnds) s

/-- The recovery timer expires (R102). -/
def State.recoveryEnds (s : State) : State :=
  if s.cmu.recoveryTimer.isSome then State.clearPack .cmu .overdraw { s with cmu.recoveryTimer := none } else s

/-- OVERDRAW_RECOVERY_EXPIRY (R102, R97). -/
def execOverdrawRecoveryExpiry (dt : Nat) (s : State) : Answer := event dt (State.atPack State.recoveryEnds) s

/-- The short comparator trips in ON or CUT_PENDING (R103). -/
def State.shortTrips (s : State) : State :=
  if s.cmu.dsw = .off then s else (s.raiseFresh .short).moveDsw .off

/-- SHORT_TRIP (R103). -/
def execShortTrip (dt : Nat) (s : State) : Answer := event dt (State.atPack State.shortTrips) s

/-- The shed timer expires in CUT_PENDING (R96). -/
def State.shedEnds (s : State) : State := if s.cmu.dsw = .cutPending then s.moveDsw .off else s

/-- SHED_TIMER_EXPIRY (R96). -/
def execShedTimerExpiry (dt : Nat) (s : State) : Answer := event dt (State.atPack State.shedEnds) s

/-- The grace timer expires (R117): with the DOCK entry ABSENT the field leaves ACCEPT. -/
def State.graceEnds (s : State) : State :=
  if s.path.graceTimer.isSome then
    let t := { s with path.graceTimer := none }
    if t.pv.dock.state = .absent then t.leaveAccept else t
  else s

/-- GRACE_TIMER_EXPIRY (R117). -/
def execGraceTimerExpiry (dt : Nat) (s : State) : Answer := event dt (State.atPack State.graceEnds) s

/-- A gauge button press (R112): the click and the 3 s display. -/
def State.gaugePressed (s : State) : State :=
  { s with tiu := { s.tiu.clickRequest s.clock with displayTimer := some s.clock } }

/-- GAUGE_PRESS (R112, R157). -/
def execGaugePress (dt : Nat) (s : State) : Answer := event dt (State.atPack State.gaugePressed) s

/-- The display's 3 s end (R112). -/
def State.displayEnds (s : State) : State := { s with tiu.displayTimer := none }

/-- GAUGE_DISPLAY_EXPIRY (R112). -/
def execGaugeDisplayExpiry (dt : Nat) (s : State) : Answer := event dt (State.atPack State.displayEnds) s

/-- A blinking gauge display toggles (R112, R161). -/
def State.blinkStep (s : State) : State :=
  { s with tiu.gauge.phaseOn := s.tiu.gauge.blinking && !s.tiu.gauge.phaseOn }

/-- GAUGE_BLINK_STEP (R112). -/
def execGaugeBlinkStep (dt : Nat) (s : State) : Answer := event dt (State.atPack State.blinkStep) s

end Sys2Proof.Machine
end

