-- ==== Sys2Proof/Machine/DockCommands.lean ====
section
/-! DEFINITION. The meanings of the DOCK's commands (chapter 6). At a HANDLE or PACK the CCU is inert. -/

namespace Sys2Proof.Machine

/-- An effect at a DOCK alone. -/
def State.atDock (f : State → State) (s : State) : State := if s.isRole .dock then f s else s

/-- The contact sense rises in UNDOCKED (R122). -/
def State.seat (s : State) : State := s.enterIdle.dockFollow

/-- A rise of the contact sense, which wakes a dozing DOCK (R122, R179). -/
def State.contactRises (s : State) : State := if s.ccu.run = .undocked then s.wakeWith true State.seat else s

/-- CS_RISE (R122, R179). -/
def execCsRise (dt : Nat) (s : State) : Answer := event dt (State.atDock State.contactRises) s

/-- Both entries become ABSENT at once (R20). -/
def State.loseEntries (s : State) : State :=
  State.dropSlot { s with pv.pack := s.pv.pack.toAbsent, pv.handle := s.pv.handle.toAbsent }

/-- The release of DOCK TRIPs at contact loss (R122, R132, R141). -/
def State.releaseTrips (s : State) : State :=
  let t := s.latchRec .ccu .outputOvervoltage
  (latchedCodes t.cdu).foldl (fun u c => u.releaseLatched c) t

/-- A fall of the contact sense in any state but UNDOCKED (R122): a run ends UNDOCKED, the run state is UNDOCKED, the
entries are ABSENT and the TRIPs released. -/
def State.contactFalls (s : State) : State :=
  if s.ccu.run = .undocked then s
  else
    let t := (s.endRun .undocked).setRun .undocked
    (t.loseEntries.releaseTrips).dockFollow

/-- CS_FALL (R122, R20, R141). -/
def execCsFall (dt : Nat) (s : State) : Answer := event dt (State.atDock State.contactFalls) s

/-- An output sample, taken while awake and docked (R126). -/
def State.outputSampled (vout iout vin : Nat) (s : State) : State :=
  if s.ssc.doze = .awake ∧ s.ccu.run ≠ .undocked then s.dockSample vout iout vin else s

/-- OUTPUT_SAMPLE (R126, R127, R131, R132, R133). -/
def execOutputSample (dt : Nat) (vout iout vin : Nat) (s : State) : Answer :=
  event dt (State.atDock (State.outputSampled vout iout vin)) s

/-- The starve timer expires (R127). -/
def State.starves (s : State) : State := if s.ccu.starveTimer.isSome then s.endRun .starved else s

/-- STARVE_TIMER_EXPIRY (R127, R129). -/
def execStarveTimerExpiry (dt : Nat) (s : State) : Answer := event dt (State.atDock State.starves) s

/-- The supply-weak recovery timer expires (R133). -/
def State.supplyRecovers (s : State) : State :=
  if s.ccu.weakTimer.isSome then State.clearDock .ccu .supplyWeak { s with ccu.weakTimer := none, ccu.weakCount := 0 }
  else s

/-- SUPPLY_WEAK_RECOVERY_EXPIRY (R133). -/
def execSupplyWeakRecoveryExpiry (dt : Nat) (s : State) : Answer := event dt (State.atDock State.supplyRecovers) s

/-- How many places the LED's pattern has in a run state (R135). -/
def ledPlaces : RunState → Nat
  | .offer => 2 | .suspended => 2 | .rest => 4 | _ => 1

/-- A boundary of the dock LED's pattern (R135). -/
def State.ledStep (s : State) : State :=
  { s with tiu.dockLedStep := (s.tiu.dockLedStep + 1) % ledPlaces s.ccu.run }

/-- DOCK_LED_STEP (R135). -/
def execDockLedStep (dt : Nat) (s : State) : Answer := event dt (State.atDock State.ledStep) s

end Sys2Proof.Machine
end

