-- ==== Sys2Proof/Machine/MotorCommands.lean ====
section
/-! DEFINITION. The meanings of the motor, mode and floor-head commands (chapter 3). At a PACK or DOCK the MDU is
inert. -/

namespace Sys2Proof.Machine

/-- An effect at a HANDLE alone. -/
def State.atHandle (f : State → State) (s : State) : State := if s.isRole .handle then f s else s

/-- A driven motor goes to COAST with aim STOP (R50, R57, R58). -/
def State.stopDrive (s : State) : State := if s.mdu.motor.driven then s.setMotor (.coast .stop) else s

/-- A trigger press (R44, R179): not taken during the phase watch. -/
def State.triggerPress (s : State) : State :=
  if s.mdu.phaseWatch.isSome then s else s.wakeWith true State.press

/-- TRIGGER_PRESS (R44, R45, R179). -/
def execTriggerPress (dt : Nat) (s : State) : Answer := event dt (State.atHandle State.triggerPress) s

/-- A trigger release: not taken during the phase watch (R44). -/
def State.triggerRelease (s : State) : State := if s.mdu.phaseWatch.isSome then s else s.release

/-- TRIGGER_RELEASE (R44, R62, R68, R86). -/
def execTriggerRelease (dt : Nat) (s : State) : Answer := event dt (State.atHandle State.triggerRelease) s

/-- The wake wait's timer expires (R46): PACK_LOST and the spin check. -/
def State.wakeWaitEnds (s : State) : State :=
  if s.mdu.wakeWait.isSome then State.spinCheck (State.raiseHandle .packLost { s with mdu.wakeWait := none }) else s

/-- WAKE_WAIT_EXPIRY (R46, R47). -/
def execWakeWaitExpiry (dt : Nat) (s : State) : Answer := event dt (State.atHandle State.wakeWaitEnds) s

/-- The align timer expires (R48). -/
def State.alignEnds (s : State) : State := if s.mdu.motor = .align then s.setMotor .ramp else s

/-- ALIGN_TIMER_EXPIRY (R48, R49). -/
def execAlignTimerExpiry (dt : Nat) (s : State) : Answer := event dt (State.atHandle State.alignEnds) s

/-- The ramp timer expires with no lock (R50). -/
def State.rampEnds (s : State) : State :=
  if s.mdu.motor = .ramp then
    let t := { s with mdu.failedStarts := satAdd 3 s.mdu.failedStarts 1 }
    if t.mdu.failedStarts < 3 then t.setMotor (.coast .retry) else (t.raiseHandle .startFail).stopDrive
  else s

/-- RAMP_TIMER_EXPIRY (R50). -/
def execRampTimerExpiry (dt : Nat) (s : State) : Answer := event dt (State.atHandle State.rampEnds) s

/-- The retry timer expires (R50): a start, or aim HOLD with a HOLD present. -/
def State.retryEnds (s : State) : State :=
  if s.mdu.motor = .coast .retry ∧ s.mdu.retryTimer.isSome then
    let t := { s with mdu.retryTimer := none }
    if t.mdu.trigger && t.clearToRun then t.restart
    else if t.hasHold && !t.hasTrip then t.setAim .hold
    else t
  else s

/-- RETRY_TIMER_EXPIRY (R50). -/
def execRetryTimerExpiry (dt : Nat) (s : State) : Answer := event dt (State.atHandle State.retryEnds) s

/-- ZERO_CROSSING (R43, R49, R54, R55, R61). -/
def execZeroCrossing (dt : Nat) (s : State) : Answer := event dt (State.atHandle State.zeroCross) s

/-- CROSSING_TIMEOUT (R49, R55, R56, R61). -/
def execCrossingTimeout (dt : Nat) (s : State) : Answer := event dt (State.atHandle State.missCrossing) s

/-- SPEED_FALLS_BELOW (R43, R55, R59, R60). -/
def execSpeedFallsBelow (dt : Nat) (mark : SpeedMark) (s : State) : Answer :=
  event dt (State.atHandle (State.speedFalls mark)) s

/-- S_cur one step nearer to S_tgt (R53). -/
def slew (cur tgt : Nat) : Nat := if cur < tgt then min tgt (cur + 200) else max tgt (cur - 400)

/-- The setpoint step timer expires in RUN (R53). -/
def State.setpointStep (s : State) : State :=
  if s.mdu.motor = .run then
    { s with mdu.sCur := slew s.mdu.sCur s.mdu.sTgt, mdu.setpointTimer := some s.clock }
  else s

/-- SETPOINT_STEP_EXPIRY (R53). -/
def execSetpointStepExpiry (dt : Nat) (s : State) : Answer := event dt (State.atHandle State.setpointStep) s

/-- BUS_CURRENT_SAMPLE (R54). -/
def execBusCurrentSample (dt : Nat) (current : Nat) (s : State) : Answer :=
  event dt (State.atHandle (State.busSample current)) s

/-- The 40 A comparator trips in ALIGN, RAMP or RUN (R57). -/
def State.overcurrent (s : State) : State :=
  if s.mdu.motor.driven then (s.raiseHandle .motorOvercurrent).stopDrive else s

/-- MOTOR_OVERCURRENT_TRIP (R57). -/
def execMotorOvercurrentTrip (dt : Nat) (s : State) : Answer := event dt (State.atHandle State.overcurrent) s

/-- HELD is entered at the confirmation with aim HOLD (R59). -/
def State.enterHeld (s : State) : State := if s.mdu.motor = .coast .hold then s.setMotor .held else s

/-- What the confirmation does: the causes of MOTOR_OVERCURRENT and START_FAIL are gone, an aim of HOLD enters HELD, and
LOCK_LOST goes where the speed is below 12,000 rpm (R55, R57 to R59). -/
def State.bridgeIsOff (s : State) : State :=
  let t := { s with mdu.bridgeOff := true }
  let t := (t.latchRec .mdu .motorOvercurrent).latchRec .mdu .startFail
  let t := t.enterHeld
  if t.mdu.speed < 12000 then t.clearHandle .mdu .lockLost else t

/-- The gate drivers confirm the bridge off after an entry to COAST, also where the motor is STOPPED by then (R55, R57 to
R59). -/
def State.bridgeConfirmed (s : State) : State :=
  match s.mdu.motor with
  | .coast _ => s.bridgeIsOff
  | .stopped => s.bridgeIsOff
  | _ => s

/-- BRIDGE_OFF_CONFIRMATION (R58). -/
def execBridgeOffConfirmation (dt : Nat) (s : State) : Answer := event dt (State.atHandle State.bridgeConfirmed) s

/-- MODE_PRESS (R65, R179). -/
def execModePress (dt : Nat) (s : State) : Answer :=
  event dt (State.atHandle (State.wakeWith true State.modePressed)) s

/-- The drive commutates on its own timing in RAMP (R49). -/
def State.commutate (s : State) : State :=
  if s.mdu.motor = .ramp then { s with mdu.lastCommutation := some s.clock } else s

/-- RAMP_COMMUTATION (R49). -/
def execRampCommutation (dt : Nat) (s : State) : Answer := event dt (State.atHandle State.commutate) s

/-! ### Floor head (R66 to R68) -/

/-- The filtered head-present sense changes (R66). -/
def State.headPresence (present : Bool) (s : State) : State := State.headFollow { s with head.present := present }

/-- HEAD_PRESENT_CHANGE (R66). -/
def execHeadPresentChange (dt : Nat) (present : Bool) (s : State) : Answer :=
  event dt (State.atHandle (State.headPresence present)) s

/-- A head current sample (R66, R67): the latest sample, and in ON the jam timer. -/
def State.headSample (current : Nat) (s : State) : State :=
  let t := { s with head.current := current }
  if s.head.output = .on then
    { t with
      head.jamTimer := if s.settings.handle.jamThreshold < current then some (s.head.jamTimer.getD s.clock) else none }
  else t

/-- HEAD_CURRENT_SAMPLE (R67). -/
def execHeadCurrentSample (dt : Nat) (current : Nat) (s : State) : Answer :=
  event dt (State.atHandle (State.headSample current)) s

/-- A jam (R66 to R68): times over 30 s old leave the history before it is read and the time appended. -/
def State.jam (s : State) : State :=
  if s.head.output = .on ∧ s.head.jamTimer.isSome then
    let h := recent s.clock 30000000 s.head.jamHistory
    let t := { s with head.jamTimer := none, head.jamHistory := h ++ [s.clock] }
    if h.length < 2 then { t with head.output := .jamOff, head.jamOffTimer := some s.clock }
    else State.raiseHandle .brushJam { t with head.output := .lockedOff }
  else s

/-- JAM_DETECTED (R66, R67, R68). -/
def execJamDetected (dt : Nat) (s : State) : Answer := event dt (State.atHandle State.jam) s

/-- The jam-off timer expires (R66). -/
def State.jamOffEnds (s : State) : State :=
  if s.head.output = .jamOff then
    { s with head.jamOffTimer := none, head.output := if s.headEligible then HeadOutput.on else .off }
  else s

/-- JAM_OFF_TIMER_EXPIRY (R66). -/
def execJamOffTimerExpiry (dt : Nat) (s : State) : Answer := event dt (State.atHandle State.jamOffEnds) s

/-! ### Dirt sensing (chapter 4) -/

/-- The window timer expires (R73). -/
def State.windowEnds (s : State) : State := if s.dsu.windowTimer.isSome then s.windowClose else s

/-- WINDOW_EXPIRY (R73). -/
def execWindowExpiry (dt : Nat) (s : State) : Answer := event dt (State.atHandle State.windowEnds) s

/-- A rising crossing of the piezo comparator (R71). -/
def State.piezoRise (s : State) : State := { s with dsu := s.dsu.rise s.clock }

/-- RISING_CROSSING (R71). -/
def execRisingCrossing (dt : Nat) (s : State) : Answer := event dt (State.atHandle State.piezoRise) s

/-- The dead time ends (R71). -/
def State.deadTimeEnds (s : State) : State := { s with dsu.deadTime := none }

/-- DEAD_TIME_EXPIRY (R71). -/
def execDeadTimeExpiry (dt : Nat) (s : State) : Answer := event dt (State.atHandle State.deadTimeEnds) s

/-- The piezo comparator falls (R71): the pinned watch of the open window is cleared. -/
def State.piezoFall (s : State) : State := { s with dsu.above := false, dsu.pinned := false }

/-- COMPARATOR_FALL (R71). -/
def execComparatorFall (dt : Nat) (s : State) : Answer := event dt (State.atHandle State.piezoFall) s

end Sys2Proof.Machine
end

