-- ==== Sys2Proof/Machine/Notices.lean ====
section
/-! DEFINITION. The meanings of the accepted frames: notices, probe, clears, reply, unknown kinds (chapter 1). -/

namespace Sys2Proof.Machine

/-- PACK_STATUS_ACCEPTED (R2, R14, R16). -/
def execPackStatusAccepted (dt : Nat) (from_ : Sender) (notice : PackStatus) (s : State) : Answer :=
  event dt (State.acceptPackStatus from_ notice) s

/-- PACK_PROFILE_ACCEPTED (R2, R15). -/
def execPackProfileAccepted (dt : Nat) (from_ : Sender) (notice : PackProfile) (s : State) : Answer :=
  event dt (State.acceptProfile from_ notice) s

/-- DRAW_ACCEPTED (R2, R14, R16). -/
def execDrawAccepted (dt : Nat) (from_ : Sender) (notice : Draw) (s : State) : Answer :=
  event dt (State.acceptDraw from_ notice) s

/-- DOCK_STATUS_ACCEPTED (R2, R14, R16). -/
def execDockStatusAccepted (dt : Nat) (from_ : Sender) (notice : DockStatus) (s : State) : Answer :=
  event dt (State.acceptDockStatus from_ notice) s

/-- PROBE (R21). -/
def execProbe (dt : Nat) (from_ : Sender) (target : Target) (record : BitVec 4) (index : Byte) (s : State) : Answer :=
  event dt (State.acceptProbe from_ target record index) s

/-- CLEAR_COUNTERS, action 1 (R22). -/
def execClearCounters (dt : Nat) (from_ : Sender) (target : Target) (s : State) : Answer :=
  event dt (State.acceptClear from_ target 1) s

/-- CLEAR_AND_FREEZE, action 2 (R172). -/
def execClearAndFreeze (dt : Nat) (from_ : Sender) (target : Target) (s : State) : Answer :=
  event dt (State.acceptClear from_ target 2) s

/-- UNFREEZE_COUNTERS, action 3 (R172). -/
def execUnfreezeCounters (dt : Nat) (from_ : Sender) (target : Target) (s : State) : Answer :=
  event dt (State.acceptClear from_ target 3) s

/-- CLEAR_CHARGE_HISTORY, action 4 (R22). -/
def execClearChargeHistory (dt : Nat) (from_ : Sender) (target : Target) (s : State) : Answer :=
  event dt (State.acceptClear from_ target 4) s

/-- SERVICE_RELEASE, action 5 (R142). -/
def execServiceRelease (dt : Nat) (from_ : Sender) (target : Target) (s : State) : Answer :=
  event dt (State.acceptClear from_ target 5) s

/-- REPLY_RECEIVED (R2). -/
def execReplyReceived (dt : Nat) (from_ : Sender) (s : State) : Answer := event dt (State.acceptOther from_) s

/-- UNKNOWN_KIND_FRAME (R1). -/
def execUnknownKindFrame (dt : Nat) (from_ : Sender) (s : State) : Answer := event dt (State.acceptOther from_) s

end Sys2Proof.Machine
end

