-- ==== Sys2Proof/Machine/Periods.lean ====
section
/-! DEFINITION. The meanings of the periodic timers, the temperature readings and the idle timer. -/

namespace Sys2Proof.Machine

/-- The ROLE_CLASH quiet count at a publish period expiry (R18). -/
def State.countQuiet (s : State) : State :=
  if s.has .roleClash ∧ s.pv.quietCount < 20 then
    let t := { s with pv.quietCount := s.pv.quietCount + 1 }
    if t.pv.quietCount = 20 then t.clearAny .pv .roleClash else t
  else s

/-- The profile period count of a PACK at a publish period expiry (R10). -/
def State.countProfile (s : State) : State :=
  if s.isRole .pack then
    if 99 ≤ s.pv.profileCount then State.requestProfile { s with pv.profileCount := 0 }
    else { s with pv.profileCount := s.pv.profileCount + 1 }
  else s

/-- A publish period expiry (R8). -/
def State.publishExpiry (s : State) : State :=
  if s.pv.publishTimer.isSome then
    let t := State.requestState false { s with pv.publishTimer := some s.clock }
    (t.ageEntries.countQuiet).countProfile
  else s

/-- PUBLISH_PERIOD_EXPIRY (R8, R10, R18, R19). -/
def execPublishPeriodExpiry (dt : Nat) (s : State) : Answer := event dt State.publishExpiry s

/-- The below-floor count and SUPPLY_LOST at a budget period expiry (R36). -/
def State.countFloor (s : State) : State :=
  if s.hb.vbus < s.settings.handle.vFloor then
    let t := { s with hb.belowFloor := satAdd 3 s.hb.belowFloor 1 }
    if t.hb.belowFloor = 3 ∧ s.hb.belowFloor ≠ 3 then t.raiseHandle .supplyLost else t
  else State.clearHandle .bgu .supplyLost { s with hb.belowFloor := 0 }

/-- The limited and equal counts and POWER_LIMITED at a budget period expiry (R37). -/
def State.countLimited (s : State) : State :=
  if s.mdu.motor = .run then
    if s.hb.pGrant < s.hb.pMode then
      let t := { s with hb.limited := satAdd 200 s.hb.limited 1, hb.equal := 0 }
      if t.hb.limited = 200 ∧ s.hb.limited ≠ 200 then t.raiseHandle .powerLimited else t
    else
      let t := { s with hb.equal := satAdd 100 s.hb.equal 1, hb.limited := 0 }
      if t.hb.equal = 100 then t.clearHandle .bgu .powerLimited else t
  else s

/-- A budget period expiry (R31, R36, R37). -/
def State.budgetExpiry (busVoltage : Nat) (s : State) : State :=
  if s.isRole .handle ∧ s.hb.timer.isSome then
    let t := State.computeGrant true { s with hb.timer := some s.clock, hb.vbus := busVoltage }
    t.countFloor.countLimited
  else s

/-- BUDGET_PERIOD_EXPIRY (R31 to R37). -/
def execBudgetPeriodExpiry (dt : Nat) (busVoltage : Nat) (s : State) : Answer :=
  event dt (State.budgetExpiry busVoltage) s

/-- A dock period expiry (R38, R133). The temperature is judged before the computation, so that a run that the clear of
DOCK_OVERHEAT resumes has its setpoint raised at this same expiry (DESIGN CHOICE, log 7). -/
def State.dockExpiry (temperature : Int) (s : State) : State :=
  if s.isRole .dock ∧ s.db.timer.isSome then
    State.dockCompute true (State.judgeDockTemp { s with db.timer := some s.clock, db.temp := temperature })
  else s

/-- DOCK_PERIOD_EXPIRY (R38 to R41, R133). -/
def execDockPeriodExpiry (dt : Nat) (temperature : Int) (s : State) : Answer :=
  event dt (State.dockExpiry temperature) s

/-- A reading of the pack thermistor (R25, R104). -/
def State.packReading (temperature : Int) (s : State) : State :=
  if s.isRole .pack then State.packTemp (limitTemp temperature) { s with ssc.thermTimer := some s.clock } else s

/-- PACK_TEMPERATURE_READING (R25, R104). -/
def execPackTemperatureReading (dt : Nat) (temperature : Int) (s : State) : Answer :=
  event dt (State.packReading temperature) s

/-- A reading of the handle thermistor (R64). -/
def State.handleReading (temperature : Int) (s : State) : State :=
  if s.isRole .handle then State.judgeHandleTemp (limitTemp temperature) { s with ssc.thermTimer := some s.clock }
  else s

/-- HANDLE_TEMPERATURE_READING (R64). -/
def execHandleTemperatureReading (dt : Nat) (temperature : Int) (s : State) : Answer :=
  event dt (State.handleReading temperature) s

/-- The idle timer expires (R177). No doze entry follows a wake cause taken first at the same moment (R179); the timer is
then set back (log 41). -/
def State.idleExpiry (s : State) : State :=
  if s.ssc.idleTimer.isSome then
    if s.ssc.causeAt = some s.clock then { s with ssc.idleTimer := none } else s.dozeEntry
  else s

/-- IDLE_TIMER_EXPIRY (R177). -/
def execIdleTimerExpiry (dt : Nat) (s : State) : Answer := event dt State.idleExpiry s

end Sys2Proof.Machine
end

