-- ==== Sys2Proof/Machine/Signalling.lean ====
section
/-! DEFINITION. The meanings of the line commands (chapter 9, R179). -/

namespace Sys2Proof.Machine

/-- QUIET_TIME (R164, R170). -/
def execQuietTime (dt : Nat) (received : Option (List Pulse)) (s : State) : Answer :=
  event dt (State.quietTime received) s

/-- A received frame failed a check (R170). -/
def State.rejectFrame (s : State) : State := if s.receives then s.countRejected else s

/-- FRAME_REJECTED (R170). -/
def execFrameRejected (dt : Nat) (s : State) : Answer := event dt State.rejectFrame s

/-- A slot wait ends with the line still recessive (R167). -/
def State.endSlotWait (s : State) : State :=
  match s.liu.waiting with
  | some w => if s.maySend then s.startFrame w.kind else s
  | none => s

/-- SLOT_WAIT_EXPIRY (R167, R3 to R7). -/
def execSlotWaitExpiry (dt : Nat) (s : State) : Answer := event dt State.endSlotWait s

/-- The own frame on the line loses (R168). -/
def State.loseContention (s : State) : State :=
  match s.liu.line with
  | .sending f => s.lostFrame f
  | _ => s

/-- CONTENTION_LOST (R168, R12). -/
def execContentionLost (dt : Nat) (s : State) : Answer := event dt State.loseContention s

/-- The own frame on the line ends whole (R162). -/
def State.endWhole (s : State) : State :=
  match s.liu.line with
  | .sending f => s.sentWhole f
  | _ => s

/-- SENT_WHOLE (R162, R7, R8, R12, R168, R177). -/
def execSentWhole (dt : Nat) (s : State) : Answer := event dt State.endWhole s

/-- The hold-off ends (R8). -/
def State.endHoldOff (s : State) : State := { s with liu.holdOff := none }

/-- HOLD_OFF_END (R8). -/
def execHoldOffEnd (dt : Nat) (s : State) : Answer := event dt State.endHoldOff s

/-- The own wake pulse ends (R165). -/
def State.endWakePulse (s : State) : State :=
  match s.liu.line with
  | .pulsing => { s with liu.line := .unsettled, liu.wakeRequest := false }
  | _ => s

/-- WAKE_PULSE_SENT (R165). -/
def execWakePulseSent (dt : Nat) (s : State) : Answer := event dt State.endWakePulse s

/-- WAKE_PULSE_RECEIVED (R165, R163). -/
def execWakePulseReceived (dt : Nat) (insideFrame : Bool) (s : State) : Answer :=
  event dt (State.wakePulse insideFrame) s

/-- LINE_STUCK (R166). -/
def execLineStuck (dt : Nat) (s : State) : Answer := event dt State.lineSticks s

/-- LINE_STUCK_CLEAR (R166). -/
def execLineStuckClear (dt : Nat) (s : State) : Answer := event dt State.lineFrees s

/-- LINE_WAKE (R179, R165). -/
def execLineWake (dt : Nat) (s : State) : Answer := event dt State.lineWakes s

/-- FRAME_BEGINS (R167). -/
def execFrameBegins (dt : Nat) (s : State) : Answer := event dt State.frameBegins s

end Sys2Proof.Machine
end

