-- ==== Sys2Proof/Machine/StartUp.lean ====
section
/-! DEFINITION. Start, supply dip and retention (R173, R174, R176), and the end of start-up. -/

namespace Sys2Proof.Machine

/-- The role of the straps (R173). -/
def strapRole : BitVec 2 → Option Role
  | 0 => some .handle | 1 => some .pack | 2 => some .dock | _ => none

/-- The settings of a role's die, or the defaults nobody reads at an unconfigured one. -/
def settingsFor (r : Option Role) (block : List Byte) : Settings :=
  match r with
  | none => defaultSettings
  | some r => readSettings r block

/-- The check of the block failed (R174). -/
def checkFailed (r : Option Role) (block : List Byte) : Bool :=
  match r with
  | none => false
  | some r => !blockPasses r block

/-- The gauge after a power-on reset (R107). -/
def Gauge.powerOn (rated : Nat) : Gauge :=
  { qRem := rated / 2, full := rated, health := healthOf rated rated }

/-- The state right after a power-on reset (R173): every field at its reset value, and the straps, tag and block
read. The queue is not the die's (log 2). -/
def State.powerOn (straps : BitVec 2) (tag : Half) (block : List Byte) (s : State) : State :=
  let r := strapRole straps
  let c := settingsFor r block
  { pending := s.pending
    power := .starting
    role := r
    tag := tag
    settings := c
    settingsFailed := checkFailed r block
    dipCause := false
    gauge := Gauge.powerOn c.pack.rated
    cmu.cells := List.replicate c.pack.cellCount {} }

/-- What the retention domain keeps of the gauge (R107, R176). -/
def Gauge.kept (g : Gauge) : Gauge :=
  { qRem := g.qRem, frac := g.frac, full := g.full, health := g.health, cycles := g.cycles, revision := g.revision }

/-- What the retention domain keeps of the path state (R114, R176). -/
def PathState.kept (p : PathState) : PathState :=
  { field := if p.field = PathField.accept then .accept else .none
    fullFlag := p.fullFlag, allowance := p.allowance, received := p.received
    baseAllowance := p.baseAllowance, baseReceived := p.baseReceived, notedRun := p.notedRun }

/-- What the retention domain keeps of the CCU (R121, R176); the run number shown is the counter's (log 20). -/
def Ccu.kept (c : Ccu) : Ccu := { runCounter := c.runCounter, runNumber := c.runCounter, history := c.history }

/-- The state that a supply below its run level leaves (R176): the retention domain, and every other field at its
reset value. -/
def State.retained (p : Power) (s : State) : State :=
  { pending := s.pending
    power := p
    role := s.role
    tag := s.tag
    settings := s.settings
    settingsFailed := s.settingsFailed
    dipCause := s.dipCause
    mdu.mode := s.mdu.mode
    cdu := if s.isRole .pack then keepTrips .pack s.cdu else []
    gauge := s.gauge.kept
    path := s.path.kept
    ccu := s.ccu.kept
    cmu.cells := List.replicate s.settings.pack.cellCount {}
    cmu.kept := if s.isRole .pack then keptActive s.cdu else [] }

/-- The supply falls (R176): below the retention level nothing is kept. -/
def State.supplyFalls (belowRetention : Bool) (s : State) : State :=
  if belowRetention = true ∨ s.power = .off then { pending := s.pending, power := .off, role := none }
  else s.retained .dipped

/-- The state right after a supply-dip reset (R176): the tag and the block read again. -/
def State.dipReset (tag : Half) (block : List Byte) (s : State) : State :=
  let c := settingsFor s.role block
  { s.retained .starting with
    tag := tag
    settings := c
    settingsFailed := checkFailed s.role block
    dipCause := true
    cmu.cells := List.replicate c.pack.cellCount {} }

/-! ### End of start-up (R173) -/

/-- SETTINGS_INVALID at the end of start-up (R174, R141): raised where the check failed; a kept record's cause is
reported gone where it passed. -/
def State.settingsCondition (s : State) : State :=
  if s.settingsFailed then s.raiseAny .settingsInvalid else s.latchRec .ssc .settingsInvalid

/-- A HANDLE's release (R31, R44, R51, R64, R66, R70 to R72). -/
def State.releaseHandle (f : FirstReadings) (s : State) : State :=
  let t := { s with
    hb.timer := some 0, hb.vbus := f.busVoltage
    ssc.thermTimer := some 0
    mdu.phaseWatch := some 0, mdu.sTgt := s.targetSpeed
    head.present := f.headPresent
    dsu.above := f.comparator }
  State.judgeHandleTemp (limitTemp f.temperature) t.startWindows

/-- The grace timer starts where a dip kept ACCEPT (R117). -/
def State.startGrace (s : State) : State :=
  if s.path.field = .accept then { s with path.graceTimer := some 0 } else s

/-- The discharge switch at the end of start-up (R94). -/
def State.releaseDsw (s : State) : State := if s.dischargeHeld then s else s.setDsw .on

/-- A PACK's release (R10, R25, R89, R94, R98, R104, R115, R117; log 7). -/
def State.releasePack (f : FirstReadings) (s : State) : State :=
  let t := { s with cmu.sweepTimer := some 0, ssc.thermTimer := some 0 }
  let t := State.packTemp (limitTemp f.temperature) t.requestProfile
  (t.releaseDsw.cswFollow.startGrace).makeRestingChoice

/-- A DOCK's release (R38, R122): the thermistor read before the run state is set. Setting it is taken as a change of run
state with its events: to IDLE it requests the dock status urgently (R9), and to either state it is a computation (R38).
The spec leaves both open (DESIGN CHOICE, log 45). -/
def State.releaseDock (f : FirstReadings) (s : State) : State :=
  let t := { s with db.timer := some 0, db.temp := f.temperature }
  (if f.contact then t.setRun .idle else t).dockFollow

/-- The end of start-up: one event at every block of the role (R173). An unconfigured die has none. -/
def State.endStartUp (f : FirstReadings) (s : State) : State :=
  let t := State.settingsCondition { s with power := .running, clock := 0, pv.publishTimer := some 0 }
  match s.role with
  | some .handle => (t.releaseHandle f).finish
  | some .pack => (t.releasePack f).finish
  | some .dock => (t.releaseDock f).finish
  | none => s

end Sys2Proof.Machine
end

