-- ==== Sys2Proof/Machine/Supply.lean ====
section
/-! DEFINITION. The meanings of the start and supply commands. -/

namespace Sys2Proof.Machine

/-- POWER_ON_RESET (R173): taken in every state of the supply. -/
def execPowerOnReset (_dt : Nat) (straps : BitVec 2) (tag : Half) (block : List Byte) (s : State) : Answer :=
  .next (s.powerOn straps tag block)

/-- SUPPLY_DIP_RESET (R176): with nothing retained there is no such reset. -/
def execSupplyDipReset (_dt : Nat) (tag : Half) (block : List Byte) (s : State) : Answer :=
  if s.power = .off then .next s else .next (s.dipReset tag block)

/-- END_OF_START_UP (R173): taken once, after a reset. -/
def execEndOfStartUp (_dt : Nat) (first : FirstReadings) (s : State) : Answer :=
  if s.power = .starting then .next (s.endStartUp first) else .next s

/-- The trigger taken at the end of the phase watch (R44). -/
def State.endPhaseWatch (pressed : Bool) (s : State) : State :=
  if s.isRole .handle ∧ s.mdu.phaseWatch.isSome then
    let t := { s with mdu.phaseWatch := none }
    if pressed then t.press else t
  else s

/-- PHASE_WATCH_END (R44). -/
def execPhaseWatchEnd (dt : Nat) (pressed : Bool) (s : State) : Answer := event dt (State.endPhaseWatch pressed) s

/-- SUPPLY_FALL (R176). -/
def execSupplyFall (_dt : Nat) (belowRetention : Bool) (s : State) : Answer := .next (s.supplyFalls belowRetention)

end Sys2Proof.Machine
end

