-- ==== Sys2Proof/Machine/ToneCommands.lean ====
section
/-! DEFINITION. The meanings of the tone and indicator commands (chapter 8). -/

namespace Sys2Proof.Machine

/-- The pattern timer reaches a boundary (R155). -/
def State.patternStep (s : State) : State := { s with tiu := s.tiu.step s.clock }

/-- PATTERN_STEP (R155, R154). -/
def execPatternStep (dt : Nat) (s : State) : Answer := event dt State.patternStep s

/-- The envelope step timer expires (R156). -/
def State.envelopeStep (s : State) : State := { s with tiu := s.tiu.envelopeStep s.clock }

/-- ENVELOPE_STEP_EXPIRY (R156). -/
def execEnvelopeStepExpiry (dt : Nat) (s : State) : Answer := event dt State.envelopeStep s

/-- The click timer expires (R157). -/
def State.clickEnds (s : State) : State := { s with tiu.click := none }

/-- CLICK_TIMER_EXPIRY (R157). -/
def execClickTimerExpiry (dt : Nat) (s : State) : Answer := event dt State.clickEnds s

/-- The gauge LEDs' blink toggles at a HANDLE (R161). -/
def State.handleBlink (s : State) : State :=
  if s.isRole .handle then { s with tiu.gauge.phaseOn := s.tiu.gauge.blinking && !s.tiu.gauge.phaseOn } else s

/-- HANDLE_GAUGE_BLINK_STEP (R161). -/
def execHandleGaugeBlinkStep (dt : Nat) (s : State) : Answer := event dt State.handleBlink s

end Sys2Proof.Machine
end

