-- ==== Sys2Proof/Machine/Dispatch.lean ====
section
/-! DEFINITION. The one match over the commands: each arm calls that command's meaning. -/

namespace Sys2Proof.Machine

/-- The effect of a command on everything but the queue. -/
def exec (i : Instr) (s : State) : Host.Outcome State Fault Refusal :=
  match i with
  | .powerOnReset dt straps tag block => Sys2Proof.Machine.execPowerOnReset dt straps tag block s
  | .supplyDipReset dt tag block => Sys2Proof.Machine.execSupplyDipReset dt tag block s
  | .endOfStartUp dt first => Sys2Proof.Machine.execEndOfStartUp dt first s
  | .phaseWatchEnd dt pressed => Sys2Proof.Machine.execPhaseWatchEnd dt pressed s
  | .quietTime dt received => Sys2Proof.Machine.execQuietTime dt received s
  | .frameRejected dt => Sys2Proof.Machine.execFrameRejected dt s
  | .packStatusAccepted dt from_ notice => Sys2Proof.Machine.execPackStatusAccepted dt from_ notice s
  | .packProfileAccepted dt from_ notice => Sys2Proof.Machine.execPackProfileAccepted dt from_ notice s
  | .drawAccepted dt from_ notice => Sys2Proof.Machine.execDrawAccepted dt from_ notice s
  | .dockStatusAccepted dt from_ notice => Sys2Proof.Machine.execDockStatusAccepted dt from_ notice s
  | .probe dt from_ target record index => Sys2Proof.Machine.execProbe dt from_ target record index s
  | .clearCounters dt from_ target => Sys2Proof.Machine.execClearCounters dt from_ target s
  | .clearAndFreeze dt from_ target => Sys2Proof.Machine.execClearAndFreeze dt from_ target s
  | .unfreezeCounters dt from_ target => Sys2Proof.Machine.execUnfreezeCounters dt from_ target s
  | .clearChargeHistory dt from_ target => Sys2Proof.Machine.execClearChargeHistory dt from_ target s
  | .serviceRelease dt from_ target => Sys2Proof.Machine.execServiceRelease dt from_ target s
  | .replyReceived dt from_ => Sys2Proof.Machine.execReplyReceived dt from_ s
  | .unknownKindFrame dt from_ => Sys2Proof.Machine.execUnknownKindFrame dt from_ s
  | .slotWaitExpiry dt => Sys2Proof.Machine.execSlotWaitExpiry dt s
  | .contentionLost dt => Sys2Proof.Machine.execContentionLost dt s
  | .sentWhole dt => Sys2Proof.Machine.execSentWhole dt s
  | .holdOffEnd dt => Sys2Proof.Machine.execHoldOffEnd dt s
  | .wakePulseSent dt => Sys2Proof.Machine.execWakePulseSent dt s
  | .wakePulseReceived dt insideFrame => Sys2Proof.Machine.execWakePulseReceived dt insideFrame s
  | .lineStuck dt => Sys2Proof.Machine.execLineStuck dt s
  | .lineStuckClear dt => Sys2Proof.Machine.execLineStuckClear dt s
  | .lineWake dt => Sys2Proof.Machine.execLineWake dt s
  | .publishPeriodExpiry dt => Sys2Proof.Machine.execPublishPeriodExpiry dt s
  | .budgetPeriodExpiry dt busVoltage => Sys2Proof.Machine.execBudgetPeriodExpiry dt busVoltage s
  | .dockPeriodExpiry dt temperature => Sys2Proof.Machine.execDockPeriodExpiry dt temperature s
  | .packTemperatureReading dt temperature => Sys2Proof.Machine.execPackTemperatureReading dt temperature s
  | .triggerPress dt => Sys2Proof.Machine.execTriggerPress dt s
  | .triggerRelease dt => Sys2Proof.Machine.execTriggerRelease dt s
  | .wakeWaitExpiry dt => Sys2Proof.Machine.execWakeWaitExpiry dt s
  | .alignTimerExpiry dt => Sys2Proof.Machine.execAlignTimerExpiry dt s
  | .rampTimerExpiry dt => Sys2Proof.Machine.execRampTimerExpiry dt s
  | .retryTimerExpiry dt => Sys2Proof.Machine.execRetryTimerExpiry dt s
  | .zeroCrossing dt => Sys2Proof.Machine.execZeroCrossing dt s
  | .crossingTimeout dt => Sys2Proof.Machine.execCrossingTimeout dt s
  | .speedFallsBelow dt mark => Sys2Proof.Machine.execSpeedFallsBelow dt mark s
  | .setpointStepExpiry dt => Sys2Proof.Machine.execSetpointStepExpiry dt s
  | .busCurrentSample dt current => Sys2Proof.Machine.execBusCurrentSample dt current s
  | .motorOvercurrentTrip dt => Sys2Proof.Machine.execMotorOvercurrentTrip dt s
  | .bridgeOffConfirmation dt => Sys2Proof.Machine.execBridgeOffConfirmation dt s
  | .handleTemperatureReading dt temperature => Sys2Proof.Machine.execHandleTemperatureReading dt temperature s
  | .modePress dt => Sys2Proof.Machine.execModePress dt s
  | .headPresentChange dt present => Sys2Proof.Machine.execHeadPresentChange dt present s
  | .headCurrentSample dt current => Sys2Proof.Machine.execHeadCurrentSample dt current s
  | .jamDetected dt => Sys2Proof.Machine.execJamDetected dt s
  | .jamOffTimerExpiry dt => Sys2Proof.Machine.execJamOffTimerExpiry dt s
  | .windowExpiry dt => Sys2Proof.Machine.execWindowExpiry dt s
  | .risingCrossing dt => Sys2Proof.Machine.execRisingCrossing dt s
  | .deadTimeExpiry dt => Sys2Proof.Machine.execDeadTimeExpiry dt s
  | .comparatorFall dt => Sys2Proof.Machine.execComparatorFall dt s
  | .sweepTimerExpiry dt => Sys2Proof.Machine.execSweepTimerExpiry dt s
  | .sweepCompletion dt voltages => Sys2Proof.Machine.execSweepCompletion dt voltages s
  | .currentSample dt current => Sys2Proof.Machine.execCurrentSample dt current s
  | .overdrawTimerExpiry dt => Sys2Proof.Machine.execOverdrawTimerExpiry dt s
  | .overdrawRecoveryExpiry dt => Sys2Proof.Machine.execOverdrawRecoveryExpiry dt s
  | .shortTrip dt => Sys2Proof.Machine.execShortTrip dt s
  | .shedTimerExpiry dt => Sys2Proof.Machine.execShedTimerExpiry dt s
  | .graceTimerExpiry dt => Sys2Proof.Machine.execGraceTimerExpiry dt s
  | .gaugePress dt => Sys2Proof.Machine.execGaugePress dt s
  | .gaugeDisplayExpiry dt => Sys2Proof.Machine.execGaugeDisplayExpiry dt s
  | .gaugeBlinkStep dt => Sys2Proof.Machine.execGaugeBlinkStep dt s
  | .csRise dt => Sys2Proof.Machine.execCsRise dt s
  | .csFall dt => Sys2Proof.Machine.execCsFall dt s
  | .outputSample dt vout iout vin => Sys2Proof.Machine.execOutputSample dt vout iout vin s
  | .starveTimerExpiry dt => Sys2Proof.Machine.execStarveTimerExpiry dt s
  | .supplyWeakRecoveryExpiry dt => Sys2Proof.Machine.execSupplyWeakRecoveryExpiry dt s
  | .dockLedStep dt => Sys2Proof.Machine.execDockLedStep dt s
  | .patternStep dt => Sys2Proof.Machine.execPatternStep dt s
  | .envelopeStepExpiry dt => Sys2Proof.Machine.execEnvelopeStepExpiry dt s
  | .clickTimerExpiry dt => Sys2Proof.Machine.execClickTimerExpiry dt s
  | .handleGaugeBlinkStep dt => Sys2Proof.Machine.execHandleGaugeBlinkStep dt s
  | .idleTimerExpiry dt => Sys2Proof.Machine.execIdleTimerExpiry dt s
  | .frameBegins dt => Sys2Proof.Machine.execFrameBegins dt s
  | .supplyFall dt belowRetention => Sys2Proof.Machine.execSupplyFall dt belowRetention s
  | .rampCommutation dt => Sys2Proof.Machine.execRampCommutation dt s

end Sys2Proof.Machine
end

