-- ==== Sys2Proof/Machine/Outputs.lean ====
section
/-! DEFINITION. The output pins as views of the state (00 section 5; R42, R66, R89, R94, R98, R131, R156, R158 to
R162, R173). A die that is not running, or is unconfigured, holds every output off and releases WL. -/

namespace Sys2Proof.Machine

/-- The die drives its outputs (R173). -/
def State.live (s : State) : Bool := s.power == .running && s.role.isSome

/-- What the die drives onto WL (R162, R165). -/
inductive WandDrive where
  /-- The line is released. -/
  | released
  /-- The 1 ms wake pulse. -/
  | wakePulse
  /-- The bytes of the own frame, each sent from bit 7 to bit 0. -/
  | frame (bytes : List Byte)
  deriving DecidableEq, Repr

/-- The drive of WL (R162, R165). -/
def State.wandLine (s : State) : WandDrive :=
  if s.live then
    match s.liu.line with
    | .sending f => .frame (f.bytes s.roleD s.tag)
    | .pulsing => .wakePulse
    | _ => .released
  else .released

/-- The dominant time of a bit in microseconds (R162). -/
def bitMicros (b : Bool) : Nat := if b then 5 else 15

/-- A square wave on the tone pin: frequency in Hz and volume level (R156). -/
structure Wave where
  frequency : Nat
  volume : Nat
  deriving DecidableEq, Repr

/-- The high time of a wave, in hundredths of a per cent of its period (R156). -/
def Wave.highTime (w : Wave) : Nat := (9 - w.volume) * 625

/-- The announcement sounds: its phase is a pulse (R156, R160). -/
def Tiu.pulsing (t : Tiu) : Bool := t.playing.any (fun p => p.phase == .pulse)

/-- The wave of the unit before mute: the pulse sounding, else the click (R156, R157). -/
def Tiu.wave (t : Tiu) : Option Wave :=
  match t.playing with
  | some p =>
    if p.phase = .pulse then p.item.pattern.map (fun q => ⟨q.frequency, t.volume.getD q.volume⟩) else none
  | none => if t.click.isSome then some ⟨3200, 2⟩ else none

/-- The tone pin (R156 to R158): low while mute is set. -/
def State.tone (s : State) : Option Wave := if s.live && !s.settings.common.mute then s.tiu.wave else none

/-- The lit LED of the gauge at a place from 0 (R112, R161). -/
def GaugeLeds.shows (g : GaugeLeds) (i : Nat) : Bool := decide (i < g.lit) && (!g.blinking || g.phaseOn)

/-- The dock LED (R135). -/
def State.dockLed (s : State) : Bool :=
  match s.ccu.run with
  | .active => true
  | .offer => s.tiu.dockLedStep == 0
  | .suspended => s.tiu.dockLedStep == 0
  | .rest => s.tiu.dockLedStep % 2 == 0
  | _ => false

/-- LED0 to LED4 (R87, R159, R160). -/
def State.led (s : State) (i : Nat) : Bool :=
  s.live &&
    match s.role with
    | some .handle =>
      if i = 0 then decide (3 ≤ s.dsu.level)
      else decide (i ≤ 4) && (if s.tiu.level = 0 then s.tiu.gauge.shows (i - 1) else s.tiu.pulsing)
    | some .pack => if i = 0 then s.tiu.pulsing else decide (i ≤ 4) && s.tiu.gauge.shows (i - 1)
    | some .dock => if i = 0 then s.tiu.pulsing else if i = 1 then s.dockLed else false
    | none => false

/-- The DSW gate (R94). -/
def State.dswGate (s : State) : Bool := s.live && s.cmu.dsw != .off

/-- The CSW gate (R98). -/
def State.cswGate (s : State) : Bool := s.live && s.cmu.csw

/-- The bleed output of cell `i`, from 1 (R89, R92): off while a sweep reads the taps. -/
def State.bleed (s : State) (i : Nat) : Bool := s.live && !s.cmu.sweeping && s.cmu.balance.contains i

/-- The motor gates are driven (R42). -/
def State.bridge (s : State) : Bool := s.live && s.mdu.motor.driven

/-- The head gate (R66). -/
def State.headGate (s : State) : Bool := s.live && s.head.output == .on

/-- The converter gate (R131). -/
def State.converterGate (s : State) : Bool := s.live && s.ccu.conv != .off

end Sys2Proof.Machine
end

