-- ==== Sys2Proof/Safety.lean ====
section
/-! DEFINITION. What claims are stated in: the whole-machine properties the spec gives in its prose, and the form
in which a command's result is stated. -/

namespace Sys2Proof.Machine

/-! ### The properties every step keeps -/

/-- The condition list is of the die's role, ordered, and holds no code twice (R137, R148). -/
def State.ListOk (s : State) : Prop :=
  listOk s.roleD s.cdu = true ∧ ∀ x ∈ s.cdu, x.code.inRole s.roleD = true

/-- The charge switch is closed only in ACCEPT with no charge-scope HOLD or TRIP present (R98). -/
def State.ChargeSafe (s : State) : Prop :=
  s.cmu.csw = true → s.isRole .pack = true ∧ s.path.field = .accept ∧ s.chargeHeld = false

/-- The discharge switch of a PACK is not ON while a discharge-scope HOLD or TRIP is present (R94). -/
def State.DischargeSafe (s : State) : Prop :=
  s.isRole .pack = true → s.dischargeHeld = true → s.cmu.dsw ≠ .on

/-- The converter is not OFF only while the run is ACTIVE with credit and no HOLD or TRIP (R131), and the
dock is not DOZING (R178). -/
def State.ConverterSafe (s : State) : Prop :=
  s.ccu.conv ≠ .off → s.isRole .dock = true ∧ s.converterAllowed = true

/-- While a run is in progress the remaining credit is below 32768 (R127). -/
def State.CreditSafe (s : State) : Prop :=
  s.ccu.run.running = true → s.ccu.credit.toNat < 32768

/-- While a run is in progress at a DOCK that has a stored pack status, the remaining credit is that status's allowance
less the baseline and the delivered charge, mod 65536 (R127). -/
def State.CreditFormed (s : State) : Prop :=
  s.isRole .dock = true → s.ccu.run.running = true → ∀ p, s.pv.pack.stored = some p →
    s.ccu.credit = p.allowance - s.ccu.baseline - s.ccu.delivered

/-- The balance set holds at most 3 cells (R92), the charge history at most 8 records (R134). -/
def State.Bounded (s : State) : Prop := s.cmu.balance.length ≤ 3 ∧ s.ccu.history.length ≤ 8

/-- The dirt ring holds at most 16 counts of at most 255, and the score is formed from it (R71, R75, R77). -/
def State.DirtOk (s : State) : Prop :=
  s.dsu.count ≤ 255 ∧ s.dsu.ring.length ≤ 16 ∧ (∀ n ∈ s.dsu.ring, n ≤ 255) ∧
    s.dsu.score = 2 * (s.dsu.ring.take 4).sum + ((s.dsu.ring.drop 4).take 12).sum

/-- A waiting or suspended announcement has a pattern and a level from 1 (R150, R155). -/
def Waiting.Ok (w : Waiting) : Prop := 1 ≤ w.level ∧ w.item.pattern.isSome = true

/-- The playing announcement is of level A, and A is 0 exactly while nothing plays; the stack holds at most 4 and
its levels rise from bottom to top, each below A; the pending summary has one entry a level, each at or below A
(R150, R152). -/
def Tiu.Ok (t : Tiu) : Prop :=
  (∀ p, t.playing = some p → p.level = t.level ∧ 1 ≤ p.level ∧ p.item.pattern.isSome = true) ∧
    (t.playing = none → t.level = 0) ∧
    t.stack.length ≤ 4 ∧ t.stack.Pairwise (fun x y => y.level < x.level) ∧
    (∀ x ∈ t.stack, x.Ok ∧ x.level < t.level) ∧
    t.waiting.Pairwise (fun x y => y.level < x.level) ∧ (∀ x ∈ t.waiting, x.Ok ∧ x.level ≤ t.level)

/-- The tone unit of a die is in order. -/
def State.ToneSafe (s : State) : Prop := s.tiu.Ok

/-! ### A frame on the line -/

/-- The pulses of the bytes of a frame, sent at the nominal times (R162): each byte from bit 7 to bit 0, a 1 dominant
for 5 us, a 0 for 15 us, 20 us from edge to edge. -/
def framePulses (bytes : List Byte) : List Pulse :=
  (bytes.map (fun b => (List.range 8).map (fun i => Pulse.mk 20000 (bitMicros (b.getMsbD i) * 1000)))).flatten

/-! ### The form of a command's result -/

/-- The die takes commands: it has supply, start-up is over, and it has this role (R173); no local wake cause is
left over from an earlier event. -/
abbrev State.Runs (r : Role) (s : State) : Prop := s.power = .running ∧ s.role = some r ∧ s.ssc.wakeAsked = false

/-- The die takes commands and is awake (R177). -/
abbrev State.Ready (r : Role) (s : State) : Prop := s.Runs r ∧ s.ssc.doze = .awake

/-- `t` is `u` after what ends every event, where no wake is due. The two differ at most in the idle timer (R177),
the gauge LEDs (R112, R161) and what the LIU presents to the line (R167); where it may present nothing, the line is
as in `u` and no slot wait runs. -/
def State.EndsAs (u t : State) : Prop :=
  t = { u with
    ssc.idleTimer := t.ssc.idleTimer
    tiu.gauge := t.tiu.gauge
    liu.line := t.liu.line
    liu.waiting := t.liu.waiting } ∧
  (u.maySend = false → t.liu.line = u.liu.line ∧ t.liu.waiting = none)

end Sys2Proof.Machine
end

