-- ==== Sys2Proof/Certificates/Slice0/Obligations.lean ====
section
/-! DEFINITION. The statements for the provers, from the numbered rules of spec/, in the order supply, line, notices,
shared effects, periods, motor, dirt, cells, dock, tone, invariants.

A result is stated as `u.EndsAs t`: `t` is the stated state `u` after what ends every event (the idle timer, the gauge
LEDs and what the LIU presents to the line follow); all else is as in `u`, which is the frame. `u` may name a shared
effect (`raiseRec`, `setMotor`, `computeGrant`, `countAccepted`, `requestState`), whose own statement is here. -/

open Sys2Proof Sys2Proof.Machine

/-! ### The queue, the supply, start-up -/

/-- The row's cut: commands are taken first in first out, and an empty queue leaves the block idle. The idle is the
model's choice (log 2). -/
def Obligations.StepRunsTheFrontCommand : Prop :=
  (∀ (c : Instr) (rest : List Instr) (s : State), s.pending = c :: rest → step s = exec c { s with pending := rest }) ∧
    ∀ s : State, s.pending = [] → step s = .next s

/-- No command stops the die, and none touches the queue (log 1, log 2: the model's choices).
R173: with straps 11 no block runs until the next power-on reset. Before the end of start-up, and without supply,
no block is released (log 5). -/
def Obligations.EveryCommandAnswers : Prop :=
  (∀ (c : Instr) (s : State), ∃ t, exec c s = .next t ∧ t.pending = s.pending) ∧
  (∀ (c : Instr) (s : State), s.power ≠ .running ∨ s.role = none →
    (∀ dt straps tag block, c ≠ .powerOnReset dt straps tag block) →
    (∀ dt tag block, c ≠ .supplyDipReset dt tag block) → (∀ dt f, c ≠ .endOfStartUp dt f) →
    (∀ dt b, c ≠ .supplyFall dt b) → exec c s = .next s)

/-- The invariants of this file hold right after reset. -/
def Obligations.ResetMeetsEveryInvariant : Prop :=
  State.reset.ListOk ∧ State.reset.ChargeSafe ∧ State.reset.DischargeSafe ∧ State.reset.ConverterSafe ∧
    State.reset.CreditSafe ∧ State.reset.CreditFormed ∧ State.reset.Bounded ∧ State.reset.ToneSafe ∧
    State.reset.DirtOk

/-- R173 and the reset values of the state sections of chapters 1 to 10: what POWER_ON_RESET leaves. Registers whose
value the spec does not give (log 8) are not in it.
R174, R175: when a setting block of 64 bytes passes its check at each role, what each field is then read as, the defaults of a
block that fails, and the CRC-16 register, byte by byte. -/
def Obligations.PowerOnResetValues : Prop :=
  (∀ (dt : Nat) (straps : BitVec 2) (tag : Half) (block : List Byte) (s : State),
    ∃ t, exec (.powerOnReset dt straps tag block) s = .next t ∧
      t.pending = s.pending ∧ t.power = .starting ∧ t.tag = tag ∧ t.dipCause = false ∧
      (straps = 0 → t.role = some .handle) ∧ (straps = 1 → t.role = some .pack) ∧
      (straps = 2 → t.role = some .dock) ∧ (straps = 3 → t.role = none) ∧
      (∀ r, t.role = some r →
        if blockPasses r block then t.settingsFailed = false ∧ t.settings = readSettings r block
        else t.settingsFailed = true ∧ t.settings = defaultSettings) ∧
      t.ssc.doze = .awake ∧ t.ssc.idleTimer = none ∧ t.ssc.thermTimer = none ∧ t.cdu = [] ∧
      t.liu.line = .unsettled ∧ t.liu.wakeRequest = false ∧ t.liu.tx = ⟨none, none, none⟩ ∧
      t.liu.seqState = 0 ∧ t.liu.seqProfile = 0 ∧ t.liu.seqReply = 0 ∧
      t.liu.sent = 0 ∧ t.liu.lost = 0 ∧ t.liu.givenUp = 0 ∧ t.liu.accepted = 0 ∧ t.liu.rejected = 0 ∧
      t.liu.matched = 0 ∧ t.liu.frozen = false ∧
      t.pv = ⟨none, 0, ⟨none, .absent, 0, none, none, 0, 0, 0, none⟩, ⟨none, .absent, 0, none, none, 0, 0, 0, none⟩,
        ⟨none, .absent, 0, none, none, 0, 0, 0, none⟩, none, false, 0, 0⟩ ∧
      t.tiu.level = 0 ∧ t.tiu.playing = none ∧ t.tiu.stack = [] ∧ t.tiu.waiting = [] ∧ t.tiu.click = none ∧
      t.tiu.volume = none ∧ t.tiu.gauge = ⟨0, false, false⟩ ∧ t.tiu.displayTimer = none ∧ (∀ i, t.led i = false) ∧
      t.hb.pGrant = 0 ∧ t.hb.iMot = 0 ∧ t.hb.belowFloor = 0 ∧ t.hb.limited = 0 ∧ t.hb.equal = 0 ∧
      t.pb.fV = 0 ∧ t.pb.fT = 0 ∧ t.pb.fC = 0 ∧ t.pb.iDis = 0 ∧ t.pb.dischargeLimit = 0 ∧ t.pb.chargeLimit = 0 ∧ t.pb.target = 0 ∧
      t.db.fD = 0 ∧ t.db.cap = 0 ∧ t.db.iTgt = 0 ∧ t.db.iSet = 0 ∧ t.db.vCeil = 0 ∧
      t.mdu.motor = .stopped ∧ t.mdu.trigger = false ∧ t.mdu.mode = .auto ∧ t.mdu.speed = 0 ∧ t.mdu.sCur = 0 ∧
      t.mdu.drive = 0 ∧ t.mdu.validCount = 0 ∧ t.mdu.missCount = 0 ∧ t.mdu.failedStarts = 0 ∧ t.mdu.lockLoss = [] ∧
      t.mdu.wakeWait = none ∧ t.head.output = .off ∧ t.head.jamHistory = [] ∧ t.head.jamTimer = none ∧
      t.head.jamOffTimer = none ∧ t.dsu.windowTimer = none ∧ t.dsu.pinned = false ∧ t.dsu.startSpeed = 0 ∧
      t.dsu.disturbed = true ∧
      t.dsu.count = 0 ∧ t.dsu.deadTime = none ∧ t.dsu.ring = [] ∧ t.dsu.score = 0 ∧ t.dsu.level = 0 ∧ t.dsu.boost = 0 ∧
      t.dsu.decay = 0 ∧ t.dsu.quiet = 0 ∧ t.dsu.pinnedCount = 0 ∧ t.dsu.unsettled = 0 ∧ t.dsu.tally = 0 ∧
      t.cmu.cells = List.replicate t.settings.pack.cellCount ⟨0, 0, 0, none, none⟩ ∧ t.cmu.balance = [] ∧
      t.cmu.highCount = 0 ∧ t.cmu.current = 0 ∧ t.cmu.dsw = .off ∧ t.cmu.csw = false ∧ t.cmu.imbalanceTimer = none ∧
      t.cmu.recoveryTimer = none ∧ t.cmu.shedTimer = none ∧ t.cmu.overdrawTimer = none ∧ t.cmu.sweepTimer = none ∧
      t.gauge = ⟨t.settings.pack.rated / 2, 0, t.settings.pack.rated, 100, 0, 0, 0, false, 0, true⟩ ∧
      t.path = ⟨.none, false, 0, 0, 0, 0, none, none, none⟩ ∧
      t.ccu.runCounter = 0 ∧ t.ccu.delivered = 0 ∧ t.ccu.credit = 0 ∧ t.ccu.peak = 0 ∧ t.ccu.passMode = false ∧
      t.ccu.conv = .off ∧ t.ccu.history = [] ∧ t.ccu.weakCount = 0 ∧ t.ccu.starveTimer = none ∧ t.ccu.baseline = 0 ∧
      t.ccu.frac = 0 ∧ t.ccu.startSoc = 0 ∧ t.ccu.lastSoc = 0 ∧ t.ccu.weakTimer = none) ∧
  (∀ b : List Byte, b.length = 64 →
    let w := fun i n : Nat => if n = 1 then (b.getD i 0).toNat else (b.getD i 0).toNat * 256 + (b.getD (i + 1) 0).toNat
    let half := fun i : Nat => BitVec.ofNat 16 (w i 2)
    let temp := fun i : Nat => (b.getD i 0).toInt
    let inside := fun l : List (Nat × Nat × Nat × Nat) => ∀ x ∈ l, x.2.2.1 ≤ w x.1 x.2.1 ∧ w x.1 x.2.1 ≤ x.2.2.2
    let warm := fun l : List Nat => ∀ i ∈ l, -40 ≤ temp i ∧ temp i ≤ 125
    let good := crc16 (b.take 62) = half 62 ∧ inside [(10, 1, 4, 255), (11, 1, 0, 1), (12, 1, 0, 1), (13, 1, 0, 1)]
    (blockPasses .handle b = true ↔ good ∧ inside [(14, 1, 1, 4), (15, 2, 0, 1200), (17, 2, 0, 1200), (19, 2, 0, 1200),
      (21, 1, 0, 100), (22, 2, 100, 1199), (24, 2, 100, 1199), (26, 2, 1, 1000), (28, 2, 0, 4095), (30, 2, 0, 4095),
      (32, 2, 0, 4095), (34, 2, 0, 500), (36, 2, 0, 1000), (38, 2, 0, 1000), (40, 2, 600, 2500), (42, 1, 0, 255),
      (43, 2, 0, 5100), (45, 2, 0, 5100), (47, 2, 0, 5100), (49, 2, 0, 5100), (51, 2, 0, 5100), (53, 2, 0, 5100),
      (55, 2, 0, 5100), (57, 1, 0, 255), (58, 2, 0, 1023), (60, 1, 0, 255), (61, 1, 0, 1)]) ∧
    (blockPasses .pack b = true ↔ good ∧ warm [21, 22, 23, 24, 25] ∧ inside [(14, 1, 3, 8), (15, 2, 3600, 4500),
      (17, 2, 2500, 3400), (19, 2, 2500, 3800), (26, 2, 500, 59500), (28, 1, 1, 255), (29, 1, 1, 255), (30, 2, 10, 1000),
      (32, 2, 20, 1000), (34, 2, 50, 1000), (36, 2, 0, 1000), (38, 1, 0, 200)]) ∧
    (blockPasses .dock b = true ↔ good ∧ warm [17, 18] ∧ inside [(14, 1, 0, 255), (15, 2, 4000, 45000),
      (19, 2, 5000, 30000), (21, 1, 0, 1)]) ∧
    (∀ r, blockPasses r b = true → (readSettings r b).common = {
      mask0 := half 0, mask1 := half 2, mask2 := half 4, matchMask := half 6, matchCompare := half 8, dozeTime := w 10 1
      mute := decide (w 11 1 = 1), envelopeLong := decide (w 12 1 = 1), clickLong := decide (w 13 1 = 1) }) ∧
    (blockPasses .handle b = true → (readSettings .handle b).handle = {
      polePairs := w 14 1, ecoSpeed := w 15 2, boostSpeed := w 17 2, autoSpeedBase := w 19 2, autoSpeedStep := w 21 1
      bandBase := w 22 2, bandLimit := w 24 2, jamThreshold := w 26 2, ecoCap := w 28 2, boostCap := w 30 2
      autoBase := w 32 2, autoStep := w 34 2, startPower := w 36 2, reserve := w 38 2, vFloor := w 40 2, limp := w 42 1
      thresholds := [w 43 2, w 45 2, w 47 2, w 49 2, w 51 2, w 53 2, w 55 2], hysteresis := w 57 1, t0 := w 58 2
      tk := w 60 1, decayLong := decide (w 61 1 = 1) }) ∧
    (blockPasses .pack b = true → (readSettings .pack b).pack = {
      cellCount := w 14 1, cellMax := w 15 2, cellMin := w 17 2, vSoft := w 19 2, tCold := temp 21, tHot1 := temp 22
      tHot2 := temp 23, tChgLow := temp 24, tChgHigh := temp 25, rated := w 26 2, maxDischarge := w 28 1
      maxCharge := w 29 1, grantStep := w 30 2, iTerm := w 32 2, shortThreshold := w 34 2, reserve := w 36 2
      balanceThreshold := w 38 1 }) ∧
    (blockPasses .dock b = true → (readSettings .dock b).dock = {
      iDockSet := w 14 1, vMax := w 15 2, tD1 := temp 17, tD2 := temp 18, supplyWeak := w 19 2
      strict := decide (w 21 1 = 1) })) ∧
  (∀ (r : Role) (b : List Byte), blockPasses r b = false → readSettings r b = {
    common := {
      mask0 := 0x00FF, mask1 := 0x0F0F, mask2 := 0x3333, matchMask := 0, matchCompare := 0, dozeTime := 100
      mute := false, envelopeLong := false, clickLong := false }
    handle := {
      polePairs := 2, ecoSpeed := 600, boostSpeed := 1050, autoSpeedBase := 780, autoSpeedStep := 30, bandBase := 1199
      bandLimit := 100, jamThreshold := 250, ecoCap := 800, boostCap := 2600, autoBase := 1500, autoStep := 150
      startPower := 120, reserve := 150, vFloor := 900, limp := 40, thresholds := [40, 120, 240, 400, 640, 960, 1400]
      hysteresis := 60, t0 := 120, tk := 24, decayLong := false }
    pack := {
      cellCount := 7, cellMax := 4200, cellMin := 3000, vSoft := 3300, tCold := -10, tHot1 := 50, tHot2 := 60
      tChgLow := 5, tChgHigh := 45, rated := 4000, maxDischarge := 200, maxCharge := 125, grantStep := 100, iTerm := 100
      shortThreshold := 600, reserve := 150, balanceThreshold := 20 }
    dock := { iDockSet := 30, vMax := 42000, tD1 := 70, tD2 := 85, supplyWeak := 17000, strict := true } }) ∧
  crc16 [] = 0xFFFF ∧
  (∀ (l : List Byte) (x : Byte),
    let shift := fun r : Half => if 32768 ≤ r.toNat then (r <<< 1) ^^^ 0x1021 else r <<< 1
    crc16 (l ++ [x]) = shift (shift (shift (shift (shift (shift (shift (shift
      (crc16 l ^^^ BitVec.ofNat 16 (x.toNat * 256))))))))))

/-- R176: what a supply-dip reset keeps of each role, and that the rest is as after a power-on reset. Where nothing is
retained there is no such reset (log 1). The run number shown is then the run counter's, which the spec does not say: the
model's choice (log 20).
R176: a fall below the run level stops the die and leaves what a dip keeps; a fall below the retention level leaves
nothing, and only a power-on reset starts it again. The two resets after a fall give what they give without it. The
phases dipped and off, off with no role, are the model's (log 5).
R137, R99, R139: a TRIP that a dip kept ACTIVE is re-raised, its count up, at the first event that judges it and does not
find its cause gone; the cell monitor raises no ACTIVE record else. Which kept TRIPs are not yet judged the model notes in
`kept`; that a cause not found gone persists is its reading (log 40). -/
def Obligations.SupplyDipAndFall : Prop :=
  (∀ (dt : Nat) (tag : Half) (block : List Byte) (s : State), s.power ≠ .off →
    ∃ t, exec (.supplyDipReset dt tag block) s = .next t ∧
      t.pending = s.pending ∧ t.power = .starting ∧ t.role = s.role ∧ t.tag = tag ∧ t.dipCause = true ∧
      (∀ r, s.role = some r →
        if blockPasses r block then t.settingsFailed = false ∧ t.settings = readSettings r block
        else t.settingsFailed = true ∧ t.settings = defaultSettings) ∧
      t.mdu.mode = s.mdu.mode ∧
      t.gauge = ⟨s.gauge.qRem, s.gauge.frac, s.gauge.full, s.gauge.health, s.gauge.cycles, s.gauge.revision, 0, false, 0,
        true⟩ ∧
      t.path = ⟨if s.path.field = PathField.accept then .accept else .none, s.path.fullFlag, s.path.allowance,
        s.path.received, s.path.baseAllowance, s.path.baseReceived, s.path.notedRun, none, none⟩ ∧
      (s.role = some .pack →
        t.cdu = (s.cdu.filter (fun x => x.code.kind .pack == .trip)).map (fun x => { x with stamp := 0 })) ∧
      (s.role ≠ some .pack → t.cdu = []) ∧
      (s.role = some .pack → ∀ c, c ∈ t.cmu.kept ↔
        c ≠ .settingsInvalid ∧ c.kind .pack = .trip ∧ hasActive s.cdu c = true) ∧
      (s.role ≠ some .pack → t.cmu.kept = []) ∧
      t.ccu.history = s.ccu.history ∧ t.ccu.runCounter = s.ccu.runCounter ∧
      t.cmu.cells = List.replicate t.settings.pack.cellCount ⟨0, 0, 0, none, none⟩ ∧
      (∃ p, exec (.powerOnReset dt 0 tag block) s = .next p ∧ t.ssc = p.ssc ∧ t.liu = p.liu ∧ t.pv = p.pv ∧
        t.tiu = p.tiu ∧ t.hb = p.hb ∧ t.pb = p.pb ∧ t.db = p.db ∧ t.head = p.head ∧ t.dsu = p.dsu ∧
        t.mdu = { p.mdu with mode := s.mdu.mode } ∧ t.cmu = { p.cmu with cells := t.cmu.cells, kept := t.cmu.kept } ∧
        t.ccu = { p.ccu with history := s.ccu.history, runCounter := s.ccu.runCounter, runNumber := s.ccu.runCounter })) ∧
  (∀ (dt du : Nat) (straps : BitVec 2) (tag : Half) (block : List Byte) (s : State),
    (s.power ≠ .off → ∃ t, exec (.supplyFall dt false) s = .next t ∧ t.power = .dipped ∧ t.role = s.role ∧
      exec (.supplyDipReset du tag block) t = exec (.supplyDipReset du tag block) s) ∧
    (∃ t, exec (.supplyFall dt true) s = .next t ∧ t.power = .off ∧ t.role = none ∧ t.cdu = [] ∧
      t.ccu.history = [] ∧ t.mdu.mode = .auto ∧ exec (.supplyDipReset du tag block) t = .next t ∧
      exec (.powerOnReset du straps tag block) t = exec (.powerOnReset du straps tag block) s)) ∧
  (∀ (dt : Nat) (v : List Nat) (x : Record) (i : Int) (s : State), s.Ready .pack → s.ListOk → x ∈ s.cdu →
    x.phase = .active →
    let judged := fun t : State =>
      (x.code ∈ s.cmu.kept → { x with count := min 255 (x.count + 1) } ∈ t.cdu ∧ x.code ∉ t.cmu.kept) ∧
        (x.code ∉ s.cmu.kept → x ∈ t.cdu)
    (s.cmu.sweeping = true → v.length = s.settings.pack.cellCount →
      (x.code = .cellLow ∧ ∃ y ∈ v, y ≤ s.settings.pack.cellMin) ∨
        (x.code = .cellHigh ∧ ∃ y ∈ v, s.settings.pack.cellMax + 50 ≤ y) ∨
        (x.code = .chargeOverrun ∧ 100 ≤ (-s.cmu.current).toNat) →
      ∃ t, exec (.sweepCompletion dt v) s = .next t ∧ judged t) ∧
    (x.code = .short → s.settings.pack.shortThreshold * 100 ≤ i.toNat →
      ∃ t, exec (.currentSample dt i) s = .next t ∧ judged t))

/-- R173, R31, R44, R64, R66, R72, R174: a HANDLE's end of start-up with an empty list. The phase watch runs, the first
window is open, and the trigger is not yet taken.
R173, R10, R94, R98, R104, R115, R117: a PACK's end of start-up with no HOLD or TRIP kept and a passing block. DSW
goes ON; a kept ACCEPT closes CSW and starts the grace timer. Without ACCEPT the first resting choice finds the DOCK
entry ABSENT. With a failing block both switches stay open. A PACK found at or above T_hot2 keeps DSW OFF: its
temperature is judged before the switch closes, the model's order (log 7).
R173, R38, R122: a DOCK's end of start-up. The contact sense sets the run state. That setting it to IDLE requests the dock
status urgently, as a change of run state, and that setting it to either state is a computation are the model's choices
(log 45); UNDOCKED requests nothing. -/
def Obligations.EndOfStartUp : Prop :=
  (∀ (dt : Nat) (f : FirstReadings) (s : State), s.power = .starting → s.role = some .handle →
    s.ssc.doze = .awake → s.ssc.wakeAsked = false → s.cdu = [] →
    let u : State := { s with
      power := .running, clock := 0, pv.publishTimer := some 0, hb.timer := some 0, hb.vbus := f.busVoltage
      ssc.thermTimer := some 0, mdu.phaseWatch := some 0, mdu.sTgt := s.targetSpeed
      head.present := f.headPresent
      dsu := { s.dsu with
        windowTimer := some 0, deadTime := none, count := 0, startSpeed := s.mdu.speed, pinned := f.comparator
        above := f.comparator, disturbed := true
        threshold := min 1023 (s.settings.handle.t0 + s.settings.handle.tk * (s.mdu.speed / 1000) / 16) } }
    (s.settingsFailed = false → f.temperature ≤ 80 → ∃ t, exec (.endOfStartUp dt f) s = .next t ∧ u.EndsAs t) ∧
    (s.settingsFailed = true → f.temperature ≤ 80 → ∃ t, exec (.endOfStartUp dt f) s = .next t ∧
      t.cdu = [⟨.settingsInvalid, 0, 1, .active⟩] ∧ t.mdu = u.mdu ∧ t.dsu = u.dsu ∧ t.hb = u.hb) ∧
    (80 < f.temperature → s.mdu.motor = .stopped → s.mdu.wakeWait = none →
      ∃ t, exec (.endOfStartUp dt f) s = .next t ∧ t.has .handleHot = true ∧
      t.has .handleOverheat = decide (95 < f.temperature) ∧ t.mdu = u.mdu)) ∧
  (∀ (dt : Nat) (f : FirstReadings) (s : State), s.power = .starting → s.role = some .pack →
    s.ssc.doze = .awake → s.ssc.wakeAsked = false → s.cdu = [] → s.liu.tx = ⟨none, none, none⟩ →
    s.cmu.dsw = .off → s.cmu.csw = false → s.cmu.swept = false → s.pv.dock.state = .absent →
    s.path.field = .none ∨ s.path.field = .accept →
    let cold := limitTemp f.temperature < s.settings.pack.tHot2
    let u : State := { s with
      power := .running, clock := 0, pv.publishTimer := some 0, cmu.sweepTimer := some 0, ssc.thermTimer := some 0
      pb.temp := limitTemp f.temperature
      liu.tx.profile := some ⟨false, 0, 0, 0, none, false⟩
      liu.tx.state := some ⟨true, 0, 0, 0, none, false⟩
      cmu.dsw := .on, cmu.shedTimer := none, cmu.overdrawTimer := none }
    (s.settingsFailed = false → cold → s.path.field = .none →
      ∃ t, exec (.endOfStartUp dt f) s = .next t ∧ u.EndsAs t) ∧
    (s.settingsFailed = false → cold → s.path.field = .accept → s.liu.line = .unsettled →
      ∃ t, exec (.endOfStartUp dt f) s = .next t ∧
        State.EndsAs { u with cmu.csw := true, path.graceTimer := some 0 } t) ∧
    (s.settingsFailed = true → ∃ t, exec (.endOfStartUp dt f) s = .next t ∧ t.has .settingsInvalid = true ∧
      t.cmu.dsw = .off ∧ t.cmu.csw = false) ∧
    (¬ cold → ∃ t, exec (.endOfStartUp dt f) s = .next t ∧ t.has .packHot = true ∧ t.cmu.dsw = .off ∧
      t.cmu.csw = false)) ∧
  (∀ (dt : Nat) (f : FirstReadings) (s : State), s.power = .starting → s.role = some .dock →
    s.ssc.doze = .awake → s.ssc.wakeAsked = false → s.cdu = [] → s.settingsFailed = false →
    s.liu.tx = ⟨none, none, none⟩ → s.pv.pack.state = .absent → s.ccu.run = .undocked → s.ccu.conv = .off →
    s.ccu.credit = 0 → s.ccu.passMode = false → s.ccu.starveTimer = none → s.db.cap = 0 →
    let fD := dockFactor f.temperature s.settings.dock.tD1 s.settings.dock.tD2
    let u : State := { s with
      power := .running, clock := 0, pv.publishTimer := some 0
      db := ⟨some 0, fD, s.settings.dock.iDockSet * fD / 256, 0, 0, 0, f.temperature⟩ }
    ∃ t, exec (.endOfStartUp dt f) s = .next t ∧
      if f.contact then State.EndsAs { u with
        ccu.run := .idle, tiu.dockLedStep := 0, liu.tx.state := some ⟨true, 0, 0, 0, none, false⟩ } t
      else u.EndsAs t)

/-! ### The wand line -/

/-- R8, R163, R165, R167, R179: the line's small events. A wake pulse outside a frame ends the quiet time; inside one it makes
the frame malformed. One that turns out to be what seemed to begin a frame, or to wake the station, leaves no frame for the
quiet time to count, with LINE_STUCK present too. -/
def Obligations.LineEvents : Prop :=
  ∀ (r : Role) (dt : Nat) (s : State), s.Runs r →
    let u := s.advance dt
    (∃ t, exec (.holdOffEnd dt) s = .next t ∧ State.EndsAs { u with liu.holdOff := none } t) ∧
    (s.liu.line = .pulsing → ∃ t, exec (.wakePulseSent dt) s = .next t ∧
      State.EndsAs { u with liu.line := .unsettled, liu.wakeRequest := false } t) ∧
    (s.receives = true → s.liu.line = .quiet → ∃ t, exec (.frameBegins dt) s = .next t ∧
      State.EndsAs { u with liu.line := .receiving false false } t) ∧
    (s.receives = true → s.liu.line = .quiet → ∃ t, exec (.wakePulseReceived dt false) s = .next t ∧
      State.EndsAs { u with liu.line := .unsettled } t) ∧
    (∀ m w, s.receives = true → s.liu.line = .receiving m w → ∃ t, exec (.wakePulseReceived dt true) s = .next t ∧
      State.EndsAs { u with liu.line := .receiving true w } t) ∧
    (∀ m w, s.receives = true ∨ w = true → s.liu.line = .receiving m w →
      ∃ t, exec (.wakePulseReceived dt false) s = .next t ∧ State.EndsAs { u with liu.line := .unsettled } t)

/-- R164, R170, R171, R179: quiet time with no frame, and at the end of a frame that is rejected. The pulses reported for a
line that was not settled, a wake pulse's followers among them, are dropped uncounted, and pulses reported with a wake pulse
before them are a malformed frame (log 34); the frame that woke the station counts as rejected, with
LINE_STUCK present too, and a wake pulse alone counts nothing (log 12): the model's choices.
R2, R170: quiet time at the end of a frame that passes every check is the command of the frame's content, taken with
the line quiet. That QUIET_TIME brings the frame's pulses with it is the model's reading of the table (log 6). -/
def Obligations.QuietTime : Prop :=
  (∀ (r : Role) (dt : Nat) (ps : List Pulse) (s : State), s.Runs r →
    let u := s.advance dt
    let rejected := if s.liu.frozen then s.liu.rejected else min 65535 (s.liu.rejected + 1)
    (s.liu.line = .unsettled → ∃ t, exec (.quietTime dt (some ps)) s = .next t ∧
      State.EndsAs { u with liu.line := .quiet } t) ∧
    (s.receives = true → s.liu.line = .receiving false false → noFrame ps = false → receptionChecks ps = none →
      ∃ t, exec (.quietTime dt (some ps)) s = .next t ∧
        State.EndsAs { u with liu.line := .quiet, liu.rejected := rejected } t) ∧
    (s.receives = true → s.liu.line = .receiving true false → noFrame ps = false →
      ∃ t, exec (.quietTime dt (some ps)) s = .next t ∧
        State.EndsAs { u with liu.line := .quiet, liu.rejected := rejected } t) ∧
    (∀ m, s.liu.line = .receiving m true → noFrame ps = false → ∃ t, exec (.quietTime dt (some ps)) s = .next t ∧
      State.EndsAs { u with liu.line := .quiet, liu.rejected := rejected } t) ∧
    (∀ m w, s.liu.line = .receiving m w → noFrame ps = true → ∃ t, exec (.quietTime dt (some ps)) s = .next t ∧
      State.EndsAs { u with liu.line := .quiet } t)) ∧
  (∀ (r : Role) (dt : Nat) (ps : List Pulse) (h : Sender) (s : State), s.Runs r → s.receives = true →
    s.liu.line = .receiving false false →
    let q : State := { s with liu.line := .quiet }
    (∀ n, receptionChecks ps = some (.packStatus h n) →
      exec (.quietTime dt (some ps)) s = exec (.packStatusAccepted dt h n) q) ∧
    (∀ n, receptionChecks ps = some (.packProfile h n) →
      exec (.quietTime dt (some ps)) s = exec (.packProfileAccepted dt h n) q) ∧
    (∀ n, receptionChecks ps = some (.draw h n) →
      exec (.quietTime dt (some ps)) s = exec (.drawAccepted dt h n) q) ∧
    (∀ n, receptionChecks ps = some (.dockStatus h n) →
      exec (.quietTime dt (some ps)) s = exec (.dockStatusAccepted dt h n) q) ∧
    (∀ x id i, receptionChecks ps = some (.probe h x id i) →
      exec (.quietTime dt (some ps)) s = exec (.probe dt h x id i) q) ∧
    (∀ x, receptionChecks ps = some (.clear h x 1) →
      exec (.quietTime dt (some ps)) s = exec (.clearCounters dt h x) q) ∧
    (∀ x, receptionChecks ps = some (.clear h x 2) →
      exec (.quietTime dt (some ps)) s = exec (.clearAndFreeze dt h x) q) ∧
    (∀ x, receptionChecks ps = some (.clear h x 3) →
      exec (.quietTime dt (some ps)) s = exec (.unfreezeCounters dt h x) q) ∧
    (∀ x, receptionChecks ps = some (.clear h x 4) →
      exec (.quietTime dt (some ps)) s = exec (.clearChargeHistory dt h x) q) ∧
    (∀ x, receptionChecks ps = some (.clear h x 5) →
      exec (.quietTime dt (some ps)) s = exec (.serviceRelease dt h x) q) ∧
    (receptionChecks ps = some (.reply h) → exec (.quietTime dt (some ps)) s = exec (.replyReceived dt h) q) ∧
    (receptionChecks ps = some (.unknown h) → exec (.quietTime dt (some ps)) s = exec (.unknownKindFrame dt h) q))

/-- R1, R3, R162, R163, R169, R170: the pulses of a frame that a station of a role sends pass every check of a receiver,
and are read as that station's notice or reply, with every field as it was sent.
R1, R163, R170: a frame passes exactly where every check of R170 holds: whole bytes, the length of byte 0, no malformed pulse
and no edge outside its window, the CRC, and a kind with its role and length. R169: the CRC-8 register, byte by byte. -/
def Obligations.SentFramesAreReadAsSent : Prop :=
  (∀ (f : OwnFrame) (tag : Half),
    let h : Sender := ⟨tag, f.seq, f.urgent, f.doze⟩
    (∀ n, f.body = .packStatus n → receptionChecks (framePulses (f.bytes .pack tag)) = some (.packStatus h n)) ∧
    (∀ n, f.body = .packProfile n → receptionChecks (framePulses (f.bytes .pack tag)) = some (.packProfile h n)) ∧
    (∀ n, f.body = .draw n → receptionChecks (framePulses (f.bytes .handle tag)) = some (.draw h n)) ∧
    (∀ n, f.body = .dockStatus n → receptionChecks (framePulses (f.bytes .dock tag)) = some (.dockStatus h n)) ∧
    (∀ d r, f.body = .reply d → 1 ≤ d.length → d.length ≤ 14 →
      receptionChecks (framePulses (f.bytes r tag)) = some (.reply h))) ∧
  (∀ ps : List Pulse,
    let counted := ps.filter (fun p => 2000 ≤ p.length)
    let one := fun p : Pulse => 3000 ≤ p.length ∧ p.length ≤ 7000
    let zero := fun p : Pulse => 12000 ≤ p.length ∧ p.length ≤ 18000
    let b := bytesOfBits (counted.length / 8) (counted.map fun p => decide (one p))
    let n := (b.getD 0 0).toNat % 16
    let kind := (b.getD 0 0).toNat / 16
    let role := (b.getD 1 0).toNat / 64
    receptionChecks ps ≠ none ↔
      counted.length % 8 = 0 ∧ 0 < counted.length ∧ n ≤ 14 ∧ b.length = 5 + n ∧ (∀ p ∈ counted, one p ∨ zero p) ∧
      (∀ p ∈ counted.drop 1, 19000 ≤ p.gap ∧ p.gap ≤ 21000) ∧ b.getD (4 + n) 0 = crc8 (b.take (4 + n)) ∧
      (kind = 0 ∨ 8 ≤ kind ∨ (kind = 1 ∧ role = 1 ∧ n = 14) ∨ (kind = 2 ∧ role = 1 ∧ n = 14) ∨
        (kind = 3 ∧ role = 0 ∧ n = 11) ∨ (kind = 4 ∧ role = 2 ∧ n = 10) ∨ (kind = 5 ∧ role = 3 ∧ n = 4) ∨
        (kind = 6 ∧ role = 3 ∧ n = 3) ∨ (kind = 7 ∧ role ≠ 3 ∧ 1 ≤ n ∧ n ≤ 14))) ∧
  crc8 [] = 0xFF ∧
  (∀ (l : List Byte) (x : Byte),
    let shift := fun r : Byte => if 128 ≤ r.toNat then (r <<< 1) ^^^ 0x2F else r <<< 1
    crc8 (l ++ [x]) = shift (shift (shift (shift (shift (shift (shift (shift (crc8 l ^^^ x))))))))) ∧
  crc8 [0] = 0x42

/-- R11, R164, R165, R167: the contention start at quiet time. The wake pulse goes first; then the first eligible
request: an urgent one starts its first bit at once, with the contents of that moment (R12; SlotWaitExpiry states them
field by field), a normal one waits the slot of its attempt. A non-urgent state notice that is held back (R8) gives way to
the requests behind it.
R167: bit i of the base slot is the parity of the number of the tag's bits that mask i, with bit i set in addition,
covers. -/
def Obligations.ContentionStart : Prop :=
  (∀ (r : Role) (dt : Nat) (s : State), s.Ready r → s.has .lineStuck = false → s.liu.line = .unsettled →
    let slot := fun a : Nat => ((s.slotBase + 3 * a) % 8 + 1) * 40
    let u := s.advance dt
    let body := match r with
      | .handle => Body.draw u.drawNow
      | .pack => Body.packStatus u.packStatusNow
      | .dock => Body.dockStatus u.dockStatusNow
    let wait := fun (k : SendKind) (a : Nat) => some (SlotWait.mk k (slot a) (s.clock + dt))
    ∃ t, exec (.quietTime dt none) s = .next t ∧
      (s.liu.wakeRequest = true → t.liu.line = .pulsing ∧ t.liu.tx = s.liu.tx) ∧
      (s.liu.wakeRequest = false → s.liu.tx = ⟨none, none, none⟩ → t.liu.line = .quiet ∧ t.liu.waiting = none) ∧
      (∀ q, s.liu.wakeRequest = false → s.liu.tx.state = some q → q.urgent = true →
        t.liu.line = .sending ⟨.state, body, true, false, s.liu.seqState⟩ ∧ t.liu.waiting = none) ∧
      (∀ q p x, s.liu.wakeRequest = false → s.liu.waiting = none → s.liu.tx = ⟨some q, p, x⟩ → q.urgent = false →
        (p.any (·.urgent)) = false → (x.any (·.urgent)) = false → s.liu.holdOff = none →
        t.liu.line = .quiet ∧ t.liu.waiting = wait .state q.attempt) ∧
      (∀ q p x, s.liu.wakeRequest = false → s.liu.waiting = none → s.liu.tx = ⟨some q, some p, x⟩ → q.urgent = false →
        p.urgent = false → (x.any (·.urgent)) = false → s.liu.holdOff ≠ none →
        t.liu.line = .quiet ∧ t.liu.waiting = wait .profile p.attempt) ∧
      (∀ x, s.liu.wakeRequest = false → s.liu.waiting = none → s.liu.tx = ⟨none, none, some x⟩ → x.urgent = false →
        t.liu.line = .quiet ∧ t.liu.waiting = wait .reply x.attempt)) ∧
  (∀ tag m0 m1 m2 : Half,
    let odd := fun m : Half => ((List.range 16).filter (fun i => tag.getLsbD i && m.getLsbD i)).length % 2
    baseSlot tag m0 m1 m2 = odd (m0 ||| 1) + 2 * odd (m1 ||| 2) + 4 * odd (m2 ||| 4)) ∧
  ∀ s : State, s.slotBase =
    baseSlot s.tag s.settings.common.mask0 s.settings.common.mask1 s.settings.common.mask2

/-- R3 to R7, R12, R167, R177: the slot wait ends with the line recessive, and the request's first bit goes out. The
frame takes its contents from the state of that moment, U from the request, D on a state notice while ENTERING, and its
kind's sequence number, which does not advance yet. -/
def Obligations.SlotWaitExpiry : Prop :=
  ∀ (r : Role) (dt : Nat) (w : SlotWait) (q : Request) (s : State), s.Runs r → s.receives = true →
    s.liu.line = .quiet → s.liu.waiting = some w →
    let u := s.advance dt
    let goes := fun (k : SendKind) (seq : BitVec 4) (b : Body) =>
      ∃ t, exec (.slotWaitExpiry dt) s = .next t ∧ State.EndsAs { u with
        liu.line := .sending ⟨k, b, q.urgent, k == .state && s.ssc.doze == .entering, seq⟩, liu.waiting := none } t
    (w.kind = .state → s.liu.tx.state = some q → r = .handle → goes .state s.liu.seqState (.draw
      ⟨u.mdu.mode.wire, u.mdu.motor.wire, u.mdu.trigger, u.head.output.wire, fit16 (u.mdu.speed / 100),
        fit16 (u.mdu.busCurrent / 10), fit16 u.hb.pGrant, fit16 u.hb.pMode, BitVec.ofNat 4 u.dsu.level,
        BitVec.ofNat 4 u.dsu.boost, summaryOf .handle u.cdu⟩)) ∧
    (w.kind = .state → s.liu.tx.state = some q → r = .pack → goes .state s.liu.seqState (.packStatus
      ⟨fit16 ((u.cmu.cells.map (·.voltage)).sum / 10), signed16 (u.cmu.current.tdiv 10),
        fit8 (if u.cmu.dsw = Dsw.on then u.pb.iDis else 0), fit8 u.pb.chargeLimit, fit16 u.pb.target, u.path.allowance,
        fit8 u.gauge.soc, signed8 u.pb.temp, summaryOf .pack u.cdu, u.cmu.dsw.wire, u.path.field.wire, u.cmu.csw,
        u.gauge.revision.extractLsb' 0 2⟩)) ∧
    (w.kind = .state → s.liu.tx.state = some q → r = .dock → goes .state s.liu.seqState (.dockStatus
      ⟨u.ccu.run.wire, u.ccu.conv.wire, fit16 (u.ccu.vout / 10), fit16 (u.ccu.iout / 10), u.ccu.delivered,
        fit8 u.db.cap, u.ccu.runNumber, summaryOf .dock u.cdu⟩)) ∧
    (w.kind = .profile → s.liu.tx.profile = some q → goes .profile s.liu.seqProfile (.packProfile
      ⟨BitVec.ofNat 4 u.settings.pack.cellCount, u.gauge.revision, fit16 (u.settings.pack.rated / 10),
        fit16 (u.gauge.full / 10), fit16 u.gauge.cycles, fit8 u.gauge.health, fit16 u.settings.pack.cellMax,
        fit16 u.settings.pack.cellMin, fit8 u.settings.pack.maxDischarge, fit8 u.settings.pack.maxCharge⟩)) ∧
    (w.kind = .reply → s.liu.tx.reply = some q → goes .reply s.liu.seqReply (.reply
      ((q.record ++ q.index.extractLsb' 0 4 : Byte) :: (u.recordData q.record q.index.toNat).getD [])))

/-- R7, R8, R10, R12, R113, R168, R171, R177: a frame sent whole. The request leaves the set, or stays as its renewal;
the sequence number advances; a state notice starts the hold-off; a profile sets the period count back; LINE_CROWDED
goes. The whole doze notice ends ENTERING, and a DOCK's converter is OFF from there (R178).
R12, R168, R171: a frame that loses contention below attempt 7. The request stays with its attempt up by 1, a
renewal merges into it, the counters and the sequence number tell, and the winner's frame is received.
R12, R168, R171, R177: a loss at attempt 7 is a give-up. The request leaves, a renewal becomes a new request, and
LINE_CROWDED is raised. The doze notice given up ends ENTERING likewise. -/
def Obligations.FrameEnds : Prop :=
  (∀ (r : Role) (dt : Nat) (f : OwnFrame) (s : State), s.Runs r → s.liu.line = .sending f →
    let u := s.advance dt
    let sent := if s.liu.frozen then s.liu.sent else min 65535 (s.liu.sent + 1)
    let after := fun q : Option Request =>
      (q.bind (·.renewal)).map fun m => Request.mk m.urgent 0 m.record m.index none false
    (s.has .lineCrowded = false → f.doze = false → f.kind = .state →
      ∃ t, exec (.sentWhole dt) s = .next t ∧ State.EndsAs { u with
        liu := { u.liu with
          line := .unsettled, sent := sent, tx := { s.liu.tx with state := after s.liu.tx.state }
          seqState := s.liu.seqState + 1, holdOff := some u.clock
          lastPackStatus := match f.body with
            | .packStatus n => some n
            | _ => s.liu.lastPackStatus } } t) ∧
    (∀ n, s.has .lineCrowded = false → f.doze = false → f.kind = .profile → f.body = .packProfile n →
      ∃ t, exec (.sentWhole dt) s = .next t ∧ State.EndsAs { u with
        liu := { u.liu with
          line := .unsettled, sent := sent, tx := { s.liu.tx with profile := after s.liu.tx.profile }
          seqProfile := s.liu.seqProfile + 1 }
        pv.profileCount := 0 } t) ∧
    (∀ d, s.has .lineCrowded = false → f.doze = false → f.kind = .reply → f.body = .reply d →
      ∃ t, exec (.sentWhole dt) s = .next t ∧ State.EndsAs { u with
        liu := { u.liu with
          line := .unsettled, sent := sent, tx := { s.liu.tx with reply := after s.liu.tx.reply }
          seqReply := s.liu.seqReply + 1 } } t) ∧
    (∃ t, exec (.sentWhole dt) s = .next t ∧ t.has .lineCrowded = false ∧ t.liu.sent = sent ∧
      (f.doze = true → s.ssc.doze = .entering → s.has .lineCrowded = false →
        t.ssc.doze = .dozing ∧ t.liu.tx = ⟨none, none, none⟩ ∧
        (r = .dock → t.ccu.conv = .off ∧ t.db.iSet = 0)))) ∧
  (∀ (r : Role) (dt : Nat) (f : OwnFrame) (q : Request) (s : State), s.Runs r → s.liu.line = .sending f →
    s.liu.tx.get f.kind = some q → q.attempt < 7 → q.leaves = false →
    let u := s.advance dt
    ∃ t, exec (.contentionLost dt) s = .next t ∧ State.EndsAs { u with
      liu.line := .receiving false false
      liu.lost := if s.liu.frozen then s.liu.lost else min 65535 (s.liu.lost + 1)
      liu.tx := s.liu.tx.put f.kind (some
        { urgent := q.urgent || (q.renewal.map (·.urgent)).getD false, attempt := q.attempt + 1
          record := (q.renewal.map (·.record)).getD q.record, index := (q.renewal.map (·.index)).getD q.index
          renewal := none, leaves := false }) } t) ∧
  (∀ (r : Role) (dt : Nat) (f : OwnFrame) (q : Request) (s : State), s.Runs r → s.liu.line = .sending f →
    s.liu.tx.get f.kind = some q → q.attempt = 7 →
    let u := s.advance dt
    let count := fun n : Nat => if s.liu.frozen then n else min 65535 (n + 1)
    (r ≠ .dock → f.doze = false →
      ∃ t, exec (.contentionLost dt) s = .next t ∧ State.EndsAs (State.raiseRec .lineCrowded { u with
        liu.line := .receiving false false, liu.lost := count s.liu.lost, liu.givenUp := count s.liu.givenUp
        liu.tx := s.liu.tx.put f.kind
          (q.renewal.map fun m => Request.mk m.urgent 0 m.record m.index none false) }) t) ∧
    (∃ t, exec (.contentionLost dt) s = .next t ∧ hasActive t.cdu .lineCrowded = true ∧
      t.liu.lost = count s.liu.lost ∧ t.liu.givenUp = count s.liu.givenUp ∧ t.liu.line = .receiving false false ∧
      (f.doze = true → s.ssc.doze = .entering → t.ssc.doze = .dozing ∧ t.liu.tx = ⟨none, none, none⟩ ∧
        (r = .dock → t.ccu.conv = .off ∧ t.db.iSet = 0))))

/-- R166: the line stuck, a HOLD. A frame being received is rejected; a HANDLE's driven motor coasts with aim HOLD, one in
COAST changes its aim to HOLD (but STOP), one in HELD stays (R58 to R60), a PACK's charge switch opens, a DOCK's run is suspended and its converter goes OFF. An own frame or wake pulse on the line
stays there to its end, the model's choice (log 27); the LIU starts nothing.
The rejected count is the model's choice (log 46): up by one where a frame has begun, has woken the station, or went on
after the own frame lost on it, and as it was where the line is quiet or not yet settled, though the stuck stretch may itself
have begun after quiet time.
R166: the line free again. LINE_STUCK goes, and the LIU finds quiet time reached.
R45, R47, R48, R59, R60: where LINE_STUCK was the last HOLD and no TRIP is present, a HANDLE takes up a start from STOPPED
with the trigger pressed, and makes the catch choice in COAST with aim HOLD, and in HELD with the trigger pressed.
R46, R58 to R60: what the raise of a TRIP does to the motor in each state. -/
def Obligations.LineStuckAndClear : Prop :=
  (∀ (r : Role) (dt : Nat) (s : State), s.Ready r → s.cdu = [] →
    let u := s.advance dt
    let rejected := match s.liu.line with
      | .receiving _ _ => if s.liu.frozen then s.liu.rejected else min 65535 (s.liu.rejected + 1)
      | _ => s.liu.rejected
    let v : State := { u with
      liu.rejected := rejected
      liu.line := match s.liu.line with
        | .receiving _ _ => .unsettled
        | .quiet => .unsettled
        | l => l }
    (r = .handle → s.mdu.motor = .stopped → ∃ t, exec (.lineStuck dt) s = .next t ∧
      State.EndsAs { v.raiseRec .lineStuck with mdu.wakeWait := none } t) ∧
    (r = .handle → s.mdu.motor.driven = true → ∃ t, exec (.lineStuck dt) s = .next t ∧
      State.EndsAs ((v.raiseRec .lineStuck).setMotor (.coast .hold)) t) ∧
    (r = .handle → s.mdu.motor = .held ∨ s.mdu.motor = .coast .stop ∨ s.mdu.motor = .coast .hold →
      ∃ t, exec (.lineStuck dt) s = .next t ∧ (v.raiseRec .lineStuck).EndsAs t) ∧
    (∀ a, r = .handle → s.mdu.motor = .coast a → a ≠ .stop → a ≠ .hold → s.mdu.bridgeOff = false →
      ∃ t, exec (.lineStuck dt) s = .next t ∧
        State.EndsAs { v.raiseRec .lineStuck with mdu := { u.mdu with motor := .coast .hold, retryTimer := none } } t) ∧
    (∀ a, r = .handle → s.mdu.motor = .coast a → a ≠ .stop → a ≠ .hold → s.mdu.bridgeOff = true →
      ∃ t, exec (.lineStuck dt) s = .next t ∧ ((v.raiseRec .lineStuck).setMotor .held).EndsAs t) ∧
    (r = .pack → ∃ t, exec (.lineStuck dt) s = .next t ∧ hasActive t.cdu .lineStuck = true ∧ t.cmu.csw = false ∧
      t.liu.rejected = rejected ∧ t.liu.line = v.liu.line) ∧
    (r = .dock → ∃ t, exec (.lineStuck dt) s = .next t ∧ hasActive t.cdu .lineStuck = true ∧ t.ccu.conv = .off ∧
      (s.ccu.run = .active → t.ccu.run = .suspended) ∧ t.liu.rejected = rejected ∧ t.liu.line = v.liu.line)) ∧
  (∀ (r : Role) (dt : Nat) (s : State), s.Ready r → s.has .lineStuck = true → (∀ f, s.liu.line ≠ .sending f) →
    let u := s.advance dt
    (r = .handle → s.mdu.trigger = false → s.mdu.motor = .stopped → ∃ t, exec (.lineStuckClear dt) s = .next t ∧
      State.EndsAs { u with
        cdu := s.cdu.filter (fun x => x.code != .lineStuck), tiu := s.tiu.removed u.clock .lineStuck
        liu.line := .quiet } t) ∧
    (∃ t, exec (.lineStuckClear dt) s = .next t ∧ t.has .lineStuck = false ∧
      (s.liu.wakeRequest = true → t.liu.line = .pulsing)) ∧
    (r = .handle →
      let w : State := { u with
        cdu := s.cdu.filter (fun x => x.code != .lineStuck), tiu := s.tiu.removed u.clock .lineStuck }
      let goes := fun y : State => ∃ t, exec (.lineStuckClear dt) s = .next t ∧
        State.EndsAs { y with liu.line := .quiet } t
      let heard := s.pv.pack.state = .fresh ∨ s.pv.pack.state = .stale
      let lost := if heard then w else w.raiseRec .packLost
      (w.clearToRun = false → goes w) ∧
      (s.mdu.motor = .stopped ∨ s.mdu.motor = .held → s.mdu.trigger = false → goes w) ∧
      (w.clearToRun = true →
        (s.mdu.motor = .stopped → s.mdu.trigger = true → s.pv.pack.state = .absent ∨ s.pv.pack.state = .dozing →
          goes { w with mdu.wakeWait := some u.clock, liu.wakeRequest := true }) ∧
        (s.mdu.motor = .stopped → s.mdu.trigger = true → s.pv.pack.state ≠ .absent → s.pv.pack.state ≠ .dozing →
          (u.mdu.speed < 3000 → goes (lost.setMotor .align)) ∧
          (3000 ≤ u.mdu.speed → u.mdu.speed < 12000 → goes (lost.setMotor (.coast .settle))) ∧
          (12000 ≤ u.mdu.speed → goes (lost.setMotor (.coast .catch_)))) ∧
        (s.mdu.motor = .held → s.mdu.trigger = true →
          (u.mdu.speed < 3000 → goes (lost.setMotor .align)) ∧
          (3000 ≤ u.mdu.speed → u.mdu.speed < 12000 → goes (w.setMotor (.coast .settle))) ∧
          (12000 ≤ u.mdu.speed → goes (w.setMotor (.coast .catch_)))) ∧
        (s.mdu.motor = .coast .hold →
          (u.mdu.speed < 3000 → goes (lost.setMotor .align)) ∧
          (3000 ≤ u.mdu.speed → u.mdu.speed < 12000 →
            goes { w with mdu := { u.mdu with motor := .coast .settle, retryTimer := none } }) ∧
          (12000 ≤ u.mdu.speed → goes { w with mdu := { u.mdu with
            motor := .coast .catch_, retryTimer := none, validCount := 0 } }))))) ∧
  (∀ (c : Code) (s : State), s.role = some .handle → c.inRole .handle = true → c.kind .handle = .trip → s.has c = false →
    let t := s.raiseHandle c
    let w := s.raiseRec c
    (s.mdu.motor = .stopped → t = { w with mdu.wakeWait := none }) ∧
    (s.mdu.motor = .coast .stop → t = w) ∧
    (∀ a, s.mdu.motor = .coast a → a ≠ .stop → t = { w with mdu := { s.mdu with
      motor := .coast .stop, retryTimer := none } }) ∧
    (s.mdu.motor = .held → s.mdu.speed < 1000 → t = w.setMotor .stopped) ∧
    (s.mdu.motor = .held → 1000 ≤ s.mdu.speed → t = w.setMotor (.coast .stop)) ∧
    (s.mdu.motor.driven = true → t = w.setMotor (.coast .stop)))

/-- R179, R20, R8: a pulse of 2 us on the line wakes a station from ENTERING or DOZING. The publish timer starts afresh,
every DOZING entry becomes STALE with age 3, the others stay, the state notice is requested not urgently, and the frame
whose first bit woke the station is lost. An awake station takes nothing from it but the note that a wake cause came at
this moment (log 41). R113: at a PACK the request is urgent where the switches or the path field differ from the last pack status sent whole,
the limit is lower, or none was sent. R131, R178: a DOCK whose run is ACTIVE, with credit and no HOLD or TRIP, has its
converter on again: the model's reading (log 48). A wake from ENTERING does all this as one from DOZING does, and a frame already being received there
is taken as the one that woke the station: the model's reading and choice (logs 12, 30).
R46, R165, R179, R20: a press, of the trigger or of the mode button, wakes a HANDLE that dozes. The press is taken
before the DOZING entries become STALE, so that the start against a DOZING pack is a wake wait. -/
def Obligations.WakeFromDoze : Prop :=
  (∀ (r : Role) (dt : Nat) (s : State), s.Runs r →
    let woken := fun {α : Type} (e : PeerEntry α) => if e.state = .dozing then { e with state := .stale, age := 3 } else e
    let unlike := s.liu.lastPackStatus = none ∨ ∃ p, s.liu.lastPackStatus = some p ∧
      (p.dsw ≠ s.cmu.dsw.wire ∨ p.csw ≠ s.cmu.csw ∨ p.field ≠ s.path.field.wire ∨
        s.pb.dischargeLimit < p.dischargeLimit.toNat)
    (s.ssc.doze = .awake → ∃ t, exec (.lineWake dt) s = .next t ∧
      State.EndsAs { s.advance dt with ssc.causeAt := some (s.clock + dt) } t) ∧
    (s.ssc.doze ≠ .awake → s.has .lineStuck = false → ∃ t, exec (.lineWake dt) s = .next t ∧ t.ssc.doze = .awake ∧
      t.pv.publishTimer = some (s.clock + dt) ∧ t.pv.pack = woken s.pv.pack ∧ t.pv.handle = woken s.pv.handle ∧
      t.pv.dock = woken s.pv.dock ∧
      (r = .handle → t.hb.timer = some (s.clock + dt) ∧ t.dsu.windowTimer = some (s.clock + dt) ∧
        t.dsu.disturbed = true ∧ t.liu.tx.state.isSome = true) ∧
      (r = .pack → t.cmu.sweepTimer = some (s.clock + dt) ∧ t.liu.tx.state.isSome = true ∧
        t.liu.tx.profile.isSome = true) ∧
      (r = .dock → t.db.timer = some (s.clock + dt) ∧ t.liu.wakeRequest = s.liu.wakeRequest ∧
        (s.ccu.run = .undocked → t.liu.tx.state = s.liu.tx.state)) ∧
      ((∀ f, s.liu.line ≠ .sending f) → s.liu.line ≠ .pulsing → t.liu.line = .receiving false true) ∧
      ((∀ f, s.liu.line ≠ .sending f) → s.liu.tx.state = none →
        (r = .handle → s.settings.handle.vFloor ≤ s.hb.vbus →
          t.liu.tx.state = some ⟨false, 0, 0, 0, none, false⟩) ∧
        (r = .dock → s.ccu.run ≠ .undocked → s.pv.pack.state ≠ .dozing → s.pv.handle.state ≠ .dozing →
          t.liu.tx.state = some ⟨false, 0, 0, 0, none, false⟩) ∧
        (r = .pack → s.pv.dock.state ≠ .dozing →
          ∃ b, t.liu.tx.state = some ⟨b, 0, 0, 0, none, false⟩ ∧ (b = true ↔ unlike))) ∧
      (r = .dock → s.pv.pack.state ≠ .dozing → s.pv.handle.state ≠ .dozing → s.ccu.run = .active → s.ccu.credit ≠ 0 →
        s.hasHold = false → s.hasTrip = false → s.ccu.conv = .off →
        t.ccu.conv = if s.db.vCeil ≤ s.ccu.vout + 50 then .cv else .cc))) ∧
  (∀ (dt : Nat) (s : State), s.Runs .handle → s.ssc.doze ≠ .awake → s.cdu = [] → s.mdu.motor = .stopped →
    s.mdu.phaseWatch = none → s.pv.pack.state = .dozing → s.liu.line = .unsettled →
    (∃ t, exec (.triggerPress dt) s = .next t ∧ t.ssc.doze = .awake ∧ t.mdu.trigger = true ∧
      t.mdu.motor = .stopped ∧ t.mdu.wakeWait = some (s.clock + dt) ∧ t.liu.wakeRequest = true ∧
      t.pv.pack.state = .stale ∧ t.pv.pack.age = 3 ∧ t.pv.publishTimer = some (s.clock + dt) ∧
      t.hb.timer = some (s.clock + dt) ∧ t.dsu.windowTimer = some (s.clock + dt) ∧ t.liu.tx.state.isSome = true) ∧
    (∃ t, exec (.modePress dt) s = .next t ∧ t.ssc.doze = .awake ∧ t.mdu.mode = s.mdu.mode.next ∧
      t.mdu.motor = .stopped ∧ t.mdu.wakeWait = s.mdu.wakeWait ∧ t.liu.wakeRequest = true ∧
      t.pv.pack.state = .stale ∧ t.pv.pack.age = 3 ∧ t.liu.tx.state.isSome = true))

/-- R1, R2, R170, R171: a frame that fails a check counts as rejected; another station's reply and a frame of unknown
kind count as accepted, and as matched where the sender's tag matches under the mask. Nothing else changes.
R11, R12, R21: a probe. An addressed one requests a reply: it joins, replaces the pending one's record with its
attempt at 0, or, in flight, becomes its renewal. One addressed elsewhere is counted alone.
R21, R22, R172: the clears of actions 1 to 4, each counted before it acts, and one addressed elsewhere. -/
def Obligations.ProbesCountsAndClears : Prop :=
  (∀ (r : Role) (dt : Nat) (h : Sender) (s : State), s.Runs r → s.receives = true →
    let u := s.advance dt
    let count := fun n : Nat => if s.liu.frozen then n else min 65535 (n + 1)
    let m := s.settings.common.matchMask
    let hit := (h.tag &&& m) == (s.settings.common.matchCompare &&& m)
    let v : State := { u with
      liu.accepted := count s.liu.accepted, liu.matched := if hit then count s.liu.matched else s.liu.matched }
    (∃ t, exec (.frameRejected dt) s = .next t ∧ State.EndsAs { u with liu.rejected := count s.liu.rejected } t) ∧
    (∃ t, exec (.replyReceived dt h) s = .next t ∧ v.EndsAs t) ∧
    (∃ t, exec (.unknownKindFrame dt h) s = .next t ∧ v.EndsAs t)) ∧
  (∀ (r : Role) (dt : Nat) (h : Sender) (x : Target) (id : BitVec 4) (i : Byte) (s : State), s.Ready r →
    s.has .lineStuck = false →
    let v := (s.advance dt).countAccepted h.tag
    let mine := x.role = roleCode r ∧ (x.tag = 0 ∨ x.tag = s.tag)
    let flying := ∃ f, s.liu.line = .sending f ∧ f.kind = .reply
    (¬ mine → ∃ t, exec (.probe dt h x id i) s = .next t ∧ v.EndsAs t) ∧
    (mine → s.liu.tx.reply = none → ∃ t, exec (.probe dt h x id i) s = .next t ∧
      State.EndsAs { v with liu.tx.reply := some ⟨false, 0, id, i, none, false⟩ } t) ∧
    (∀ q, mine → s.liu.tx.reply = some q → ¬ flying → ∃ t, exec (.probe dt h x id i) s = .next t ∧
      State.EndsAs { v with liu.tx.reply := some { q with record := id, index := i, attempt := 0 } } t) ∧
    (∀ q, mine → s.liu.tx.reply = some q → flying → ∃ t, exec (.probe dt h x id i) s = .next t ∧
      State.EndsAs { v with liu.tx.reply := some { q with renewal := some ⟨false, id, i⟩ } } t)) ∧
  ∀ (r : Role) (dt : Nat) (h : Sender) (x : Target) (s : State), s.Ready r → s.has .lineStuck = false →
    let u := s.advance dt
    let v := u.countAccepted h.tag
    let mine := x.role = roleCode r ∧ (x.tag = 0 ∨ x.tag = s.tag)
    let zero := fun (l : Liu) => { l with sent := 0, lost := 0, givenUp := 0, accepted := 0, rejected := 0, matched := 0 }
    (mine → ∃ t, exec (.clearCounters dt h x) s = .next t ∧ State.EndsAs { u with liu := zero u.liu } t) ∧
    (mine → ∃ t, exec (.clearAndFreeze dt h x) s = .next t ∧
      State.EndsAs { u with liu := { zero u.liu with frozen := true } } t) ∧
    (mine → ∃ t, exec (.unfreezeCounters dt h x) s = .next t ∧ State.EndsAs { v with liu.frozen := false } t) ∧
    (mine → r = .dock → ∃ t, exec (.clearChargeHistory dt h x) s = .next t ∧
      State.EndsAs { v with ccu.history := [], ccu.runCounter := 0 } t) ∧
    (mine → r ≠ .dock → ∃ t, exec (.clearChargeHistory dt h x) s = .next t ∧ v.EndsAs t) ∧
    (¬ mine → (∃ t, exec (.clearCounters dt h x) s = .next t ∧ v.EndsAs t) ∧
      (∃ t, exec (.clearAndFreeze dt h x) s = .next t ∧ v.EndsAs t) ∧
      (∃ t, exec (.unfreezeCounters dt h x) s = .next t ∧ v.EndsAs t) ∧
      (∃ t, exec (.clearChargeHistory dt h x) s = .next t ∧ v.EndsAs t) ∧
      ∃ t, exec (.serviceRelease dt h x) s = .next t ∧ v.EndsAs t)

/-- R141, R142, R22: an addressed service release removes every LATCHED record and leaves every ACTIVE one. At a HANDLE
at rest and at a DOCK exactly those go. At a PACK a LATCHED CELL_LOW may come back as ACTIVE by the computation that the
release makes, so it is left out; SHORT latched alone gives the discharge switch back. -/
def Obligations.ServiceRelease : Prop :=
  ∀ (r : Role) (dt : Nat) (h : Sender) (x : Target) (s : State), s.Ready r → s.has .lineStuck = false → s.ListOk →
    x.role = roleCode r → (x.tag = 0 ∨ x.tag = s.tag) →
    ∃ t, exec (.serviceRelease dt h x) s = .next t ∧
      (r = .handle → s.mdu.motor = .stopped → s.mdu.trigger = false →
        t.cdu = s.cdu.filter (fun y => y.phase == .active) ∧ t.mdu = (s.advance dt).mdu) ∧
      (r = .dock → t.cdu = s.cdu.filter (fun y => y.phase == .active)) ∧
      (r = .pack → (∀ c, c ≠ .cellLow → hasLatched t.cdu c = false) ∧
        ∀ c, c.kind .pack = .trip → c ≠ .cellLow → hasActive s.cdu c = true → hasActive t.cdu c = true) ∧
      (∀ n k, r = .pack → s.cdu = [⟨.short, n, k, .latched⟩] → s.cmu.dsw = .off →
        (s.cmu.swept = true → 0 < voltageFactor s.cmu.vmin s.settings.pack.cellMin s.settings.pack.vSoft) →
        t.has .short = false ∧ t.cmu.dsw = .on ∧ (s.cmu.swept = false → t.cdu = []))

/-- R23, R24, R138, R147: the data of every record that a reply may carry, by role and index, and the ids and indices that
name none, whose reply is its first byte alone. The bits that the table does not list are sent as 0 (log 42), and a figure
too large for its field is free (log 11): the model's choices. -/
def Obligations.ReplyRecords : Prop :=
  ∀ (r : Role) (s : State), s.role = some r →
    let hi := fun h : Half => h.extractLsb' 8 8
    let lo := fun h : Half => h.extractLsb' 0 8
    let flag := fun b : Bool => if b then (1 : BitVec 1) else 0
    let code := fun x : Role => (match x with | .handle => 0 | .pack => 1 | .dock => 2 : BitVec 2)
    let state := fun x : Freshness => (match x with
      | .absent => 0 | .fresh => 1 | .stale => 2 | .lost => 3 | .dozing => 4 : BitVec 3)
    let pair := fun n : Nat => [hi (fit16 n), lo (fit16 n)]
    let entry := fun {α : Type} (x : Role) (valid behind : Bool) (e : PeerEntry α) =>
      [(code x ++ state e.state ++ flag valid ++ flag behind ++ (0 : BitVec 1) : Byte), hi (e.tag.getD 0),
        lo (e.tag.getD 0), fit8 e.age] ++ pair e.missed ++ [fit8 e.clashes, fit8 e.duplicates]
    let tally := BitVec.ofNat 32 s.dsu.tally
    s.recordData 0 0 = some [(code r ++ (0 : BitVec 4) ++ flag s.settingsFailed ++ flag s.dipCause : Byte), hi s.tag,
      lo s.tag, fit8 s.pv.ownClash] ∧
    s.recordData 1 0 = some (pair s.liu.sent ++ pair s.liu.lost ++ pair s.liu.givenUp ++ pair s.liu.accepted ++
      pair s.liu.rejected ++ pair s.liu.matched) ∧
    (∀ i x, i ≤ 15 → s.cdu[i]? = some x → s.recordData 2 i = some [fit8 x.code.number,
      (BitVec.ofNat 4 (x.code.level r) ++
        (match x.code.kind r with | .trim => 1 | .hold => 2 | .trip => 3 : BitVec 2) ++
        (match x.code.scope r with | .none => 0 | .discharge => 1 | .charge => 2 | .both => 3 : BitVec 2) : Byte),
      fit8 x.count, BitVec.ofNat 8 (min 255 ((min 4294967295 (s.clock / 1000) - x.stamp) / 1000))]) ∧
    (r = .handle → s.recordData 3 0 = some ([(BitVec.ofNat 4 s.dsu.level ++ BitVec.ofNat 4 s.dsu.boost : Byte)] ++
      pair s.dsu.score ++ (List.range 4).map (fun k => fit8 (s.dsu.ring.getD k 0)) ++
      [tally.extractLsb' 24 8, tally.extractLsb' 16 8, tally.extractLsb' 8 8, tally.extractLsb' 0 8])) ∧
    (∀ i c, r = .pack → i ≤ 15 → 1 ≤ i → s.cmu.cells[i - 1]? = some c → s.recordData 3 i = some (pair c.voltage ++
      [if i ∈ s.cmu.balance then 1 else 0] ++ pair c.bleedSeconds ++ pair (c.highest.getD 0) ++
      pair (c.lowest.getD 0))) ∧
    (∀ i x, r = .dock → i ≤ 15 → s.ccu.history[i]? = some x → s.recordData 3 i = some [x.number,
      (match x.cause with
        | .complete => 1 | .withdrawn => 2 | .undocked => 3 | .packLost => 4 | .packRestart => 5 | .starved => 6
        | .dockFault => 7 : Byte),
      hi x.delivered, lo x.delivered, hi x.remainder, lo x.remainder, x.startSoc, x.endSoc, fit8 x.peak]) ∧
    (r ≠ .handle → s.recordData 4 0 = some (entry .handle false false s.pv.handle)) ∧
    (r ≠ .pack → s.recordData 4 1 = some (entry .pack s.pv.slot.isSome s.pv.behind s.pv.pack)) ∧
    (r ≠ .dock → s.recordData 4 2 = some (entry .dock false false s.pv.dock)) ∧
    (∀ (id : BitVec 4) (i : Nat), 15 < i ∨ 4 < id.toNat ∨ (id.toNat < 2 ∧ i ≠ 0) ∨ (id = 2 ∧ s.cdu.length ≤ i) ∨
        (id = 3 ∧ r = .handle ∧ i ≠ 0) ∨ (id = 3 ∧ r = .pack ∧ (i = 0 ∨ s.cmu.cells.length < i)) ∨
        (id = 3 ∧ r = .dock ∧ s.ccu.history.length ≤ i) ∨ (id = 4 ∧ (i = (code r).toNat ∨ 3 ≤ i)) →
      s.recordData id i = none ∧
        ∀ k : Byte, k.toNat = i → s.replyNow id k = [(id ++ k.extractLsb' 0 4 : Byte)])

/-! ### Accepted notices -/

/-- R14, R16: an accepted state notice at a peer entry, case by case: a duplicate, a new notice with the frames missed
before it, the first of its kind, one that takes the entry of another tag, and one that is refused.
R2, R14, R16, R18: every state notice goes to its sender's role's entry and to no other; a refused one and one of
the station's own role raise ROLE_CLASH and set the quiet count back.
R151: the creation of the DOCK entry at a HANDLE, and of the PACK entry at a DOCK, requests the DOCKED announcement; a
replacement requests none. -/
def Obligations.EntriesAndTheirNotices : Prop :=
  (∀ (h : Sender) (n : PackStatus) (e : PeerEntry PackStatus),
    let heard : Freshness := if h.doze then .dozing else .fresh
    (e.tag = some h.tag → e.lastSeq = some h.seq →
      e.file h n = { e with duplicates := min 255 (e.duplicates + 1), age := 0, state := heard }) ∧
    (∀ l, e.tag = some h.tag → e.lastSeq = some l → l ≠ h.seq →
      e.file h n = { e with
        missed := min 65535 (e.missed + (h.seq.toNat + 15 - l.toNat) % 16), lastSeq := some h.seq, stored := some n
        age := 0, state := heard }) ∧
    (e.tag = some h.tag → e.lastSeq = none → e.missed ≤ 65535 →
      e.file h n = { e with lastSeq := some h.seq, stored := some n, age := 0, state := heard }) ∧
    (e.tag ≠ some h.tag → e.state = .absent ∨ e.state = .stale ∨ e.state = .lost →
      e.file h n = ⟨some h.tag, heard, 0, some h.seq, none, 0, 0, e.clashes, some n⟩) ∧
    (e.tag ≠ some h.tag → e.state = .fresh ∨ e.state = .dozing →
      e.file h n = { e with clashes := min 255 (e.clashes + 1) })) ∧
  (∀ (r : Role) (dt : Nat) (h : Sender) (s : State), s.Ready r → s.has .lineStuck = false →
    let clashed := fun (t : State) => hasActive t.cdu .roleClash = true ∧ t.pv.quietCount = 0
    (∀ n, r ≠ .pack → ∃ t, exec (.packStatusAccepted dt h n) s = .next t ∧ t.pv.pack = s.pv.pack.file h n ∧
      t.pv.handle = s.pv.handle ∧ t.pv.dock = s.pv.dock ∧ (s.pv.pack.judge h = .clash → clashed t) ∧
      (s.pv.pack.judge h = .replaced → t.pv.slot = none ∧ t.pv.behind = false)) ∧
    (∀ n, r ≠ .handle → ∃ t, exec (.drawAccepted dt h n) s = .next t ∧ t.pv.handle = s.pv.handle.file h n ∧
      t.pv.pack = s.pv.pack ∧ t.pv.dock = s.pv.dock ∧ (s.pv.handle.judge h = .clash → clashed t) ∧
      (s.pv.handle.judge h = .replaced → r = .pack → t.liu.tx.profile.isSome = true)) ∧
    (∀ n, r ≠ .dock → ∃ t, exec (.dockStatusAccepted dt h n) s = .next t ∧ t.pv.dock = s.pv.dock.file h n ∧
      t.pv.pack = s.pv.pack ∧ t.pv.handle = s.pv.handle ∧ (s.pv.dock.judge h = .clash → clashed t) ∧
      (s.pv.dock.judge h = .replaced → r = .pack → t.liu.tx.profile.isSome = true)) ∧
    (∀ n, r = .handle → s.pv.dock.state = .absent → s.pv.dock.tag = none →
      ∃ t, exec (.dockStatusAccepted dt h n) s = .next t ∧
        t.tiu = { s.tiu.request (s.clock + dt) .docked 1 with gauge := t.tiu.gauge }) ∧
    (∀ n, r = .handle → s.pv.dock.state = .stale ∨ s.pv.dock.state = .lost → s.pv.dock.tag ≠ some h.tag →
      ∃ t, exec (.dockStatusAccepted dt h n) s = .next t ∧ t.tiu = { s.tiu with gauge := t.tiu.gauge }) ∧
    (∀ n, r = .dock → s.pv.pack.state = .absent → s.pv.pack.tag = none → s.ccu.run = .idle → n.field ≠ 1 →
      ∃ t, exec (.packStatusAccepted dt h n) s = .next t ∧
        t.tiu = { s.tiu.request (s.clock + dt) .docked 1 with gauge := t.tiu.gauge }) ∧
    (∀ n, r = .dock → s.pv.pack.state = .stale ∨ s.pv.pack.state = .lost → s.pv.pack.tag ≠ some h.tag →
      s.ccu.run = .idle → n.field ≠ 1 →
      ∃ t, exec (.packStatusAccepted dt h n) s = .next t ∧ t.tiu = { s.tiu with gauge := t.tiu.gauge }) ∧
    (∀ c, (∃ n, r = .pack ∧ c = .packStatusAccepted dt h n) ∨ (∃ n, r = .pack ∧ c = .packProfileAccepted dt h n) ∨
        (∃ n, r = .handle ∧ c = .drawAccepted dt h n) ∨ (∃ n, r = .dock ∧ c = .dockStatusAccepted dt h n) →
      ∃ t, exec c s = .next t ∧ clashed t ∧ t.pv.ownClash = min 255 (s.pv.ownClash + 1) ∧ t.pv.pack = s.pv.pack ∧
        t.pv.handle = s.pv.handle ∧ t.pv.dock = s.pv.dock))

/-- R31, R32, R46, R47, R146: a pack status of the tag followed, with a new sequence, at a HANDLE. A FRESH entry: the
grant is computed at once on the new status. A discharge trip shown: PACK_TRIPPED, a HOLD, and a driven motor coasts.
The end of a wake wait: the entry becomes FRESH and the motor enters ALIGN. -/
def Obligations.PackStatusAtHandle : Prop :=
  ∀ (dt : Nat) (h : Sender) (n : PackStatus) (l : BitVec 4) (s : State), s.Ready .handle → s.has .lineStuck = false →
    s.pv.pack.tag = some h.tag → s.pv.pack.lastSeq = some l → l ≠ h.seq → h.doze = false →
    let v := (s.advance dt).countAccepted h.tag
    let behind := match s.pv.slot with
      | some x => decide (x.profile.revision.extractLsb' 0 2 ≠ n.revision)
      | none => false
    let w : State := { v with
      pv.behind := behind
      pv.pack := { s.pv.pack with
        missed := min 65535 (s.pv.pack.missed + (h.seq.toNat + 15 - l.toNat) % 16), lastSeq := some h.seq
        stored := some n, age := 0, state := .fresh } }
    let trip := n.summary.kind = 3 ∧ (n.summary.scope = 1 ∨ n.summary.scope = 3)
    (s.pv.pack.state = .fresh → ¬ trip → s.has .packTripped = false →
      ∃ t, exec (.packStatusAccepted dt h n) s = .next t ∧ State.EndsAs (w.computeGrant false) t) ∧
    (s.pv.pack.state = .fresh → trip → s.cdu = [] → s.mdu.motor.driven = true →
      ∃ t, exec (.packStatusAccepted dt h n) s = .next t ∧ hasActive t.cdu .packTripped = true ∧
        t.mdu.motor = .coast .hold ∧ t.mdu.drive = 0 ∧ t.hb.pGrant = 0) ∧
    (s.pv.pack.state ≠ .fresh → ¬ trip → s.has .packTripped = false → s.mdu.motor = .stopped → s.mdu.wakeWait.isSome →
      s.mdu.speed < 3000 → ∃ t, exec (.packStatusAccepted dt h n) s = .next t ∧ t.mdu.motor = .align ∧
        t.mdu.alignTimer = some (s.clock + dt) ∧ t.mdu.wakeWait = none ∧ t.has .packLost = false ∧
        t.liu.tx.state.isSome = true)

/-- R123, R124, R125, R127, R128, R129, R130, R134: a pack status of the tag followed, with a new sequence, at a DOCK whose
PACK entry is FRESH: the offer and its withdrawal, the run's begin, its going on in ACTIVE and SUSPENDED, its ends and what
follows them, and the new offer from REST. A COMPLETE end requests
the CHARGE_COMPLETE announcement (R151). A field that is no code of the table is read as REFUSE (R3).
R126, R129: one with D = 1 ends a run as PACK_LOST, its record with the state of charge of that very status. That the
entry's change to DOZING is taken before the status itself, so that neither its field nor its credit ends the run, is the
model's choice (log 18). -/
def Obligations.PackStatusAtDock : Prop :=
  ∀ (dt : Nat) (h : Sender) (n : PackStatus) (l : BitVec 4) (s : State), s.Ready .dock → s.cdu = [] →
    s.pv.pack.tag = some h.tag → s.pv.pack.lastSeq = some l → l ≠ h.seq → s.pv.pack.state = .fresh →
    let credit := n.allowance - s.ccu.baseline - s.ccu.delivered
    let ended := fun (c : EndCause) (rest : Half) => enterHistory
      ⟨s.ccu.runNumber, c, s.ccu.delivered, rest, s.ccu.startSoc, n.soc, s.ccu.peak⟩ s.ccu.history
    let alone := s.pv.handle.state = .absent
    let drawing := ∃ d, s.pv.handle.state = .fresh ∧ s.pv.handle.stored = some d ∧ d.motor ≠ 0
    ∃ t, exec (.packStatusAccepted dt h n) s = .next t ∧ t.pv.pack.stored = some n ∧
      (h.doze = true → s.ccu.run.running = true → t.ccu.run = .idle ∧ t.ccu.conv = .off ∧
        t.ccu.history = ended .packLost 0) ∧
      (h.doze = false →
        (s.ccu.run = .idle → n.field = 1 → s.pv.slot.isSome →
          t.ccu.run = .offer ∧ t.ccu.strictWait = false ∧ t.liu.tx.state.isSome = true) ∧
        (s.ccu.run = .idle → n.field = 1 → s.pv.slot = none → s.settings.dock.strict = true →
          t.ccu.run = .offer ∧ t.ccu.strictWait = true ∧ t.ccu.passMode = s.ccu.passMode) ∧
        (s.ccu.run = .idle → n.field = 1 → s.pv.slot = none → s.settings.dock.strict = false →
          t.ccu.run = .offer ∧ t.ccu.strictWait = false ∧ t.ccu.passMode = true ∧ t.has .profileMissing = true) ∧
        (s.ccu.run = .idle → n.field ≠ 1 → t.ccu.run = .idle) ∧
        (s.ccu.run = .offer → n.field = 1 → t.ccu.run = .offer) ∧
        (s.ccu.run = .offer → n.field ≠ 1 → n.field ≠ 2 → t.ccu.run = .idle) ∧
        (alone → s.ccu.run = .offer → n.field = 2 → s.ccu.strictWait = false →
          t.ccu.run = .active ∧ t.ccu.runCounter = s.ccu.runCounter + 1 ∧ t.ccu.runNumber = s.ccu.runCounter + 1 ∧
          t.ccu.baseline = n.allowance ∧ t.ccu.delivered = 0 ∧ t.ccu.credit = 0 ∧ t.ccu.peak = 0 ∧
          t.ccu.startSoc = n.soc ∧ t.ccu.lastSoc = n.soc ∧ t.ccu.conv = .off ∧ t.ccu.starveTimer.isSome = true) ∧
        (s.ccu.run = .offer → n.field = 2 → s.ccu.strictWait = true → t.ccu.run = .offer) ∧
        (alone → s.ccu.run = .active ∨ s.ccu.run = .suspended → n.field = 2 → credit.toNat < 32768 →
          t.ccu.run = .active ∧ t.ccu.credit = credit ∧ t.ccu.lastSoc = n.soc ∧ t.ccu.history = s.ccu.history) ∧
        (drawing → s.ccu.run = .active ∨ s.ccu.run = .suspended → n.field = 2 → credit.toNat < 32768 →
          t.ccu.run = .suspended ∧ t.ccu.conv = .off ∧ t.ccu.credit = credit ∧ t.ccu.lastSoc = n.soc ∧
          t.ccu.history = s.ccu.history) ∧
        (s.ccu.run = .active ∨ s.ccu.run = .suspended → n.field = 3 → credit.toNat < 32768 →
          t.ccu.run = .rest ∧ t.ccu.conv = .off ∧ t.ccu.history = ended .complete 0 ∧
          t.tiu = { s.tiu.request (s.clock + dt) .chargeComplete 2 with
            dockLedStep := 0, gauge := t.tiu.gauge }) ∧
        (s.ccu.run = .active ∨ s.ccu.run = .suspended → n.field ≠ 2 → n.field ≠ 3 → credit.toNat < 32768 →
          t.ccu.run = (if n.field = 1 then RunState.offer else .idle) ∧ t.ccu.conv = .off ∧
          t.ccu.history = ended .withdrawn credit) ∧
        (s.ccu.run = .active ∨ s.ccu.run = .suspended → 32768 ≤ credit.toNat →
          t.ccu.run = (if n.field = 1 then RunState.offer else .idle) ∧ t.ccu.conv = .off ∧
          t.ccu.history = ended .packRestart 0) ∧
        (s.ccu.run = .rest → t.ccu.run = if n.field = 1 then RunState.offer else .rest))

/-- R15, R18: a pack profile at a HANDLE or DOCK. From the PACK entry's own tag it is a notice for freshness, and loads
an invalid slot or one of another revision; from another tag it is refused by a FRESH or DOZING entry and else ignored. A
duplicate loads as any other: the model's reading (log 16).
R31, R38, R40, R41, R123 to R125, R128: what a loading does: a grant at the HANDLE; at the DOCK the strict wait, pass mode and
PROFILE_MISSING end, the figures are formed from the new profile, and in OFFER a stored ACCEPT begins the run, which the
suspend test may take at once to SUSPENDED. -/
def Obligations.ProfileLoadsTheSlot : Prop :=
  ∀ (r : Role) (dt : Nat) (h : Sender) (n : PackProfile) (s : State), s.Ready r → s.has .lineStuck = false → r ≠ .pack →
    let loads := s.pv.slot = none ∨ ∃ x, s.pv.slot = some x ∧ x.profile.revision ≠ n.revision
    let held := s.hasHold = true ∨
      ∃ d, s.pv.handle.stored = some d ∧ (s.pv.handle.state = .fresh ∨ s.pv.handle.state = .stale) ∧ d.motor ≠ 0
    ∃ t, exec (.packProfileAccepted dt h n) s = .next t ∧ t.pv.handle = s.pv.handle ∧ t.pv.dock = s.pv.dock ∧
      (s.pv.pack.tag = some h.tag → t.pv.pack.state = (if h.doze then .dozing else .fresh) ∧ t.pv.pack.age = 0 ∧
        t.pv.pack.lastProfileSeq = some h.seq ∧ t.pv.pack.stored = s.pv.pack.stored ∧
        t.pv.pack.lastSeq = s.pv.pack.lastSeq ∧
        (s.pv.pack.lastProfileSeq = some h.seq → t.pv.pack.duplicates = min 255 (s.pv.pack.duplicates + 1) ∧
          t.pv.pack.missed = s.pv.pack.missed) ∧
        (∀ l, s.pv.pack.lastProfileSeq = some l → l ≠ h.seq → t.pv.pack.duplicates = s.pv.pack.duplicates ∧
          t.pv.pack.missed = min 65535 (s.pv.pack.missed + (h.seq.toNat + 15 - l.toNat) % 16))) ∧
      (s.pv.pack.tag = some h.tag → s.pv.slot = none → t.pv.slot = some ⟨n, h.tag⟩ ∧ t.pv.behind = false) ∧
      (∀ x, s.pv.pack.tag = some h.tag → s.pv.slot = some x → x.profile.revision ≠ n.revision →
        t.pv.slot = some ⟨n, h.tag⟩ ∧ t.pv.behind = false) ∧
      (∀ x, s.pv.pack.tag = some h.tag → s.pv.slot = some x → x.profile.revision = n.revision →
        t.pv.slot = some x ∧ t.pv.behind = s.pv.behind) ∧
      (s.pv.pack.tag ≠ some h.tag → t.pv.slot = s.pv.slot ∧ t.pv.behind = s.pv.behind) ∧
      (r = .handle → s.pv.pack.tag = some h.tag → s.pv.pack.state = .fresh → h.doze = false → loads →
        t.hb = (State.computeGrant false { s.advance dt with pv.slot := some ⟨n, h.tag⟩ }).hb) ∧
      (∀ p, r = .dock → s.pv.pack.tag = some h.tag → s.pv.pack.state = .fresh → h.doze = false → loads →
        s.pv.pack.stored = some p →
        t.ccu.strictWait = false ∧ t.ccu.passMode = false ∧ t.has .profileMissing = false ∧
        t.db.vCeil = min (p.target.toNat * 10) (min (n.cells.toNat * n.cellMax.toNat) s.settings.dock.vMax) ∧
        t.db.iTgt = (if t.ccu.credit = 0 then 0
          else min (p.chargeLimit.toNat * 20) (min (n.maxCharge.toNat * 20) (t.db.cap * 100))) ∧
        (s.ccu.run = .offer → p.field ≠ 2 → t.ccu.run = .offer ∧ t.ccu.conv = .off) ∧
        (s.ccu.run = .offer → p.field = 2 →
          t.ccu.runCounter = s.ccu.runCounter + 1 ∧ t.ccu.runNumber = s.ccu.runCounter + 1 ∧
          t.ccu.baseline = p.allowance ∧ t.ccu.delivered = 0 ∧ t.ccu.frac = 0 ∧ t.ccu.peak = 0 ∧ t.ccu.credit = 0 ∧
          t.ccu.startSoc = p.soc ∧ t.ccu.lastSoc = p.soc ∧ t.ccu.conv = .off ∧ t.liu.tx.state.isSome = true ∧
          (¬ held → t.ccu.run = .active ∧ t.ccu.starveTimer.isSome = true) ∧
          (held → t.ccu.run = .suspended ∧ t.ccu.starveTimer = none)) ∧
        (s.ccu.run = .idle ∨ s.ccu.run = .rest ∨ s.ccu.run = .undocked → t.ccu.run = s.ccu.run)) ∧
      (s.pv.pack.tag ≠ some h.tag → s.pv.pack.state = .fresh ∨ s.pv.pack.state = .dozing →
        t.pv.pack = { s.pv.pack with clashes := min 255 (s.pv.pack.clashes + 1) } ∧
        hasActive t.cdu .roleClash = true ∧ t.pv.quietCount = 0) ∧
      (s.pv.pack.tag ≠ some h.tag → s.pv.pack.state ≠ .fresh → s.pv.pack.state ≠ .dozing →
        State.EndsAs ((s.advance dt).countAccepted h.tag) t)

/-- R96, R101, R128, R131: a draw of the tag followed, with a new sequence and a FRESH entry. At a PACK in CUT_PENDING,
STOPPED or a current of 500 mA or less opens the switch at once, also where CELL_LOW made the cut, unless that very
event releases CELL_LOW. At a DOCK, another motor state than STOPPED suspends the run, and STOPPED resumes it: with no
credit the converter stays OFF, else it starts in CC, or in CV within 50 mV of the ceiling, with the setpoint at 0. -/
def Obligations.DrawAtPackAndDock : Prop :=
  ∀ (r : Role) (dt : Nat) (h : Sender) (n : Draw) (l : BitVec 4) (s : State), s.Ready r → s.has .lineStuck = false →
    s.pv.handle.tag = some h.tag → s.pv.handle.lastSeq = some l → l ≠ h.seq → h.doze = false →
    s.pv.handle.state = .fresh →
    let w : State := { (s.advance dt).countAccepted h.tag with
      pv.handle := { s.pv.handle with
        missed := min 65535 (s.pv.handle.missed + (h.seq.toNat + 15 - l.toNat) % 16), lastSeq := some h.seq
        stored := some n, age := 0, state := .fresh } }
    let releases := s.path.field = .accept ∧ 100 ≤ (-s.cmu.current).toNat ∧
      s.settings.pack.cellMin + 200 < s.cmu.vmin
    (r = .pack → s.cmu.dsw = .cutPending → s.has .cellLow = false ∨ ¬ releases → n.motor = 0 ∨ n.current.toNat ≤ 50 →
      ∃ t, exec (.drawAccepted dt h n) s = .next t ∧ t.cmu.dsw = .off ∧ t.cmu.shedTimer = none ∧
        t.liu.tx.state.isSome = true ∧ (s.has .cellLow = true → t.has .cellLow = true)) ∧
    (r = .pack → s.cmu.dsw = .cutPending → n.motor ≠ 0 → 50 < n.current.toNat →
      ∃ t, exec (.drawAccepted dt h n) s = .next t ∧ w.EndsAs t) ∧
    (r = .pack → s.cmu.dsw ≠ .cutPending → ∃ t, exec (.drawAccepted dt h n) s = .next t ∧ w.EndsAs t) ∧
    (r = .dock → s.ccu.run = .active → n.motor ≠ 0 → ∃ t, exec (.drawAccepted dt h n) s = .next t ∧
      t.ccu.run = .suspended ∧ t.ccu.conv = .off ∧ t.db.iSet = 0 ∧ t.ccu.starveTimer = none ∧
      t.liu.tx.state.isSome = true) ∧
    (r = .dock → s.ccu.run = .suspended → n.motor = 0 → s.hasHold = false →
      ∃ t, exec (.drawAccepted dt h n) s = .next t ∧ t.ccu.run = .active ∧ t.liu.tx.state.isSome = true ∧
        (s.ccu.conv = .off → t.db.iSet = 0 ∧ (s.ccu.credit = 0 → t.ccu.conv = .off) ∧
          (s.ccu.credit ≠ 0 → s.hasTrip = false →
            t.ccu.conv = if t.db.vCeil ≤ s.ccu.vout + 50 then Converter.cv else .cc)))

/-- R98, R116, R117, R120: a dock status of the tag followed, with a new sequence and a FRESH entry, at a PACK: the
acceptance of an offer, the run's noting with its first grant, the base noted again at an offer in ACCEPT, which drops the
noted run so that nothing is granted, and a run that is over. At a HANDLE the entry alone. -/
def Obligations.DockStatusAtPackAndHandle : Prop :=
  ∀ (r : Role) (dt : Nat) (h : Sender) (n : DockStatus) (l : BitVec 4) (s : State), s.Ready r →
    s.has .lineStuck = false → s.pv.dock.tag = some h.tag → s.pv.dock.lastSeq = some l → l ≠ h.seq → h.doze = false →
    s.pv.dock.state = .fresh →
    let w : State := { (s.advance dt).countAccepted h.tag with
      pv.dock := { s.pv.dock with
        missed := min 65535 (s.pv.dock.missed + (h.seq.toNat + 15 - l.toNat) % 16), lastSeq := some h.seq
        stored := some n, age := 0, state := .fresh } }
    (r = .handle → ∃ t, exec (.dockStatusAccepted dt h n) s = .next t ∧ w.EndsAs t) ∧
    (r = .pack → s.path.field = .want → n.run = 2 → s.chargeHeld = false →
      ∃ t, exec (.dockStatusAccepted dt h n) s = .next t ∧ t.path.field = .accept ∧ t.cmu.csw = true ∧
        t.path.baseAllowance = s.path.allowance ∧ t.path.baseReceived = s.path.received ∧ t.path.notedRun = none ∧
        t.path.allowance = s.path.allowance ∧ t.path.received = s.path.received ∧ t.path.fullTimer = none ∧
        t.liu.tx.state.isSome = true) ∧
    (r = .pack → s.path.field = .accept → n.run = 3 → s.path.notedRun = none →
      s.path.baseAllowance = s.path.allowance → s.path.baseReceived = s.path.received →
      2 ≤ s.settings.pack.grantStep → s.settings.pack.grantStep ≤ 1000 →
      ∃ t, exec (.dockStatusAccepted dt h n) s = .next t ∧ State.EndsAs { w with
        path.notedRun := some n.runNumber
        path.allowance := s.path.allowance + BitVec.ofNat 16 s.settings.pack.grantStep } t) ∧
    (r = .pack → s.path.field = .accept → n.run = 2 → ∃ t, exec (.dockStatusAccepted dt h n) s = .next t ∧
      State.EndsAs { w with path := { s.path with
        baseAllowance := s.path.allowance, baseReceived := s.path.received, notedRun := none } } t) ∧
    (r = .pack → s.path.field = .accept → n.run = 1 ∨ n.run = 5 →
      ∃ t, exec (.dockStatusAccepted dt h n) s = .next t ∧ t.path.field ≠ .accept ∧ t.cmu.csw = false ∧
        t.path.notedRun = none ∧ t.path.fullTimer = none)

/-! ### Shared effects that the statements below name -/

/-- R136 to R139, R151, R9: what a raise does. A code of the role gets a new record, ACTIVE with count 1, behind every
record of a higher level and every older one of its level; or its record counts and is ACTIVE. A new or re-activated
record is announced. A risen head level requests the state notice urgently; where it does not rise nothing is requested. Nothing else
changes. -/
def Obligations.RaiseRecord : Prop :=
  ∀ (c : Code) (s : State), let r := s.roleD; let t := s.raiseRec c
    t = { s with cdu := t.cdu, tiu := t.tiu, liu.tx.state := t.liu.tx.state } ∧
    (c.inRole r = false → t = s) ∧
    (c.inRole r = true → s.has c = false → s.ListOk →
      t.tiu = s.tiu.request s.clock (.code c) (c.level r) ∧
      ∃ a b, s.cdu = a ++ b ∧ t.cdu = a ++ ⟨c, s.stamp, 1, .active⟩ :: b ∧
        (∀ x ∈ a, c.level r < x.code.level r ∨ (c.level r = x.code.level r ∧ x.stamp ≤ s.stamp)) ∧
        ∀ x ∈ b, x.code.level r < c.level r ∨ (c.level r = x.code.level r ∧ s.stamp < x.stamp)) ∧
    (c.inRole r = true → s.has c = true →
      t.cdu = s.cdu.map (fun x => if x.code = c then ⟨c, x.stamp, min 255 (x.count + 1), .active⟩ else x)) ∧
    (c.inRole r = true → hasLatched s.cdu c = true → s.ListOk → t.tiu = s.tiu.request s.clock (.code c) (c.level r)) ∧
    (hasActive s.cdu c = true → hasLatched s.cdu c = false → t.tiu = s.tiu ∧ t.liu = s.liu) ∧
    t.liu = (if headLevel r s.cdu < headLevel r t.cdu then (s.requestState true).liu else s.liu) ∧
    (headLevel r s.cdu < headLevel r t.cdu → s.publishes = true →
      ∃ q, t.liu.tx.state = some q ∧ (q.urgent = true ∨ (q.renewal.any (·.urgent)) = true))

/-- R152, R154, R155, R157: what an announcement request does to the tone unit. A level above A begins its pattern at
once, over the playing one, which is suspended, and stops a click. The suspended one goes onto the stack with its removed
mark clear, also where its record went while it played: the model's choice (log 50). Of four suspended ones the lowest leaves for its level's
place in the pending summary, unless it is removed or the place is taken. A level at or below A is recorded, one a level, in
place of what its level held; an item without a pattern requests nothing.
R154: the choice at an announcement's end, over the stack's top and the highest pending entry not removed: the pending one
above the stack's top or with no stack; else the stack's top, where a removed top is discarded and the choice made again;
with neither, silence. -/
def Obligations.AnnouncementRequest : Prop :=
  (∀ (clk level : Nat) (item : Item) (p : Pattern) (t : Tiu), item.pattern = some p →
    let new : Waiting := ⟨item, level, false⟩
    (t.level < level → let u := t.request clk item level; u.level = level ∧
      u.playing = some ⟨item, level, 0, 0, .pulse⟩ ∧ u.patternTimer = some clk ∧ u.click = none ∧
      u.volume = some (if p.envelope then 1 else p.volume) ∧
      (t.playing = none → u.stack = t.stack ∧ u.waiting = t.waiting) ∧
      (∀ q, t.playing = some q → u.stack.head? = some ⟨q.item, q.level, false⟩) ∧
      (∀ q, t.playing = some q → t.stack.length < 4 → u.stack.tail = t.stack ∧ u.waiting = t.waiting) ∧
      (∀ q, t.playing = some q → t.stack.length = 4 → u.stack.tail = t.stack.take 3) ∧
      (∀ b, t.playing.isSome → t.stack.length = 4 → t.stack.getLast? = some b →
        (b.removed = true ∨ (∃ w ∈ t.waiting, w.level = b.level) → u.waiting = t.waiting) ∧
        (b.removed = false → (∀ w ∈ t.waiting, w.level ≠ b.level) →
          ∀ w, w ∈ u.waiting ↔ w = b ∨ w ∈ t.waiting))) ∧
    (level ≤ t.level → t.request clk item level = { t with waiting := (t.request clk item level).waiting } ∧
      new ∈ (t.request clk item level).waiting ∧
      (t.Ok → ∀ w, w ∈ (t.request clk item level).waiting ↔ w = new ∨ (w ∈ t.waiting ∧ w.level ≠ level))) ∧
    ∀ (i : Item) (l : Nat), i.pattern = none → t.request clk i l = t) ∧
  ∀ (clk : Nat) (t : Tiu),
    let pending := t.waiting.filter (fun w => !w.removed)
    let begins := fun (w : Waiting) (p : Pattern) (u : Tiu) => { u with
      level := w.level, playing := some ⟨w.item, w.level, 0, 0, .pulse⟩, patternTimer := some clk, click := none
      volume := some (if p.envelope then 1 else p.volume), envelopeTimer := if p.envelope then some clk else none }
    (t.stack = [] → pending = [] → t.finish clk = { t with
      level := 0, playing := none, patternTimer := none, volume := none, envelopeTimer := none, waiting := [] }) ∧
    (∀ w ws p, pending = w :: ws → (∀ x, t.stack.head? = some x → x.level < w.level) → w.item.pattern = some p →
      t.finish clk = begins w p { t with waiting := ws }) ∧
    (∀ x xs p, t.stack = x :: xs → x.removed = false → (∀ w, pending.head? = some w → w.level ≤ x.level) →
      x.item.pattern = some p → t.finish clk = begins x p { t with stack := xs, waiting := pending }) ∧
    (∀ x xs, t.stack = x :: xs → x.removed = true → (∀ w, pending.head? = some w → w.level ≤ x.level) →
      t.finish clk = Tiu.finish clk { t with stack := xs })

/-- R11, R12, R177: what a request of the state notice does: it joins the transmit set, or marks the one pending urgent,
or is kept as the renewal of the one on the line; and nothing while DOZING, in UNDOCKED (R6) or on an unconfigured die.
R136, R140, R153: what the removal of a condition's record does: the record goes; at the tone unit its waiting and suspended
announcements are marked removed, and a playing one that repeats until clear ends by the choice of R154. A clear acts from
the code's source alone on a TRIM or HOLD; a report that a TRIP's cause is gone makes its record LATCHED. Nothing else
changes. -/
def Obligations.RequestsAndRemovals : Prop :=
  (∀ (urgent : Bool) (s : State), let t := s.requestState urgent
    t = { s with liu.tx.state := t.liu.tx.state } ∧
    (s.role = none ∨ s.ssc.doze = .dozing ∨ (s.role = some .dock ∧ s.ccu.run = .undocked) → t = s) ∧
    (s.role ≠ none → s.ssc.doze ≠ .dozing → s.role ≠ some .dock ∨ s.ccu.run ≠ .undocked →
      (s.liu.tx.state = none → t.liu.tx.state = some ⟨urgent, 0, 0, 0, none, false⟩) ∧
      (∀ q, s.liu.tx.state = some q → (∀ f, s.liu.line = .sending f → f.kind ≠ .state) →
        t.liu.tx.state = some { q with urgent := q.urgent || urgent }) ∧
      (∀ q f, s.liu.tx.state = some q → s.liu.line = .sending f → f.kind = .state →
        t.liu.tx.state = some { q with
          renewal := some ⟨urgent || (q.renewal.map (·.urgent)).getD false, q.record, q.index⟩ }))) ∧
  (∀ (c : Code) (s : State),
    (s.has c = false → s.dropRec c = s) ∧
    (s.has c = true → s.dropRec c = { s with
      cdu := s.cdu.filter (fun x => x.code != c), tiu := s.tiu.removed s.clock c })) ∧
  (∀ (clk : Nat) (c : Code) (t : Tiu),
    let mark := fun l : List Waiting => l.map fun w => if w.item = .code c then { w with removed := true } else w
    let u : Tiu := { t with stack := mark t.stack, waiting := mark t.waiting }
    (∀ p q, t.playing = some p → p.item = .code c → p.item.pattern = some q → q.repeats = none →
      t.removed clk c = u.finish clk) ∧
    ((∀ p q, t.playing = some p → p.item = .code c → p.item.pattern = some q → q.repeats ≠ none) →
      t.removed clk c = u)) ∧
  (∀ (b : Block) (c : Code) (s : State),
    (b = c.source → c.kind s.roleD ≠ .trip → s.clearRec b c = s.dropRec c ∧ s.latchRec b c = s) ∧
    (b = c.source → c.kind s.roleD = .trip → s.clearRec b c = s ∧ s.latchRec b c = { s with
      cdu := s.cdu.map fun x => if x.code = c then { x with phase := .latched } else x }) ∧
    (b ≠ c.source → s.clearRec b c = s ∧ s.latchRec b c = s))

/-- R32 to R35: what one computation of the HANDLE budget forms, BUS_LOW, and that nothing else changes. The grant never
exceeds the smaller of P_mode and P_avail. -/
def Obligations.GrantComputation : Prop :=
  ∀ (period : Bool) (s : State), let t := s.computeGrant period; let c := s.settings.handle
    let offer := fun n : PackStatus =>
      if n.dsw = 0 ∧ ¬ (n.summary.kind = 3 ∧ (n.summary.scope = 1 ∨ n.summary.scope = 3)) then n.dischargeLimit.toNat
      else 0
    let entry := match s.pv.pack.state, s.pv.pack.stored with
      | .fresh, some n => offer n
      | .stale, some n => offer n / 2
      | _, _ => c.limp
    let iPk := match s.pv.slot with
      | some x => min entry x.profile.maxDischarge.toNat
      | none => entry
    let iAvail := (max 0 ((iPk : Int) * 100 - s.head.current * 10 - c.reserve)).toNat
    let pAvail := min 4095 (s.hb.vbus * iAvail / 10000)
    let full := match s.mdu.mode with
      | .eco => c.ecoCap
      | .auto => c.autoBase + c.autoStep * s.dsu.boost
      | .boost => c.boostCap
    let pMode := if s.has .handleHot then full / 2 else full
    let pCap := min pMode pAvail
    t = { s with hb := t.hb, cdu := t.cdu, tiu := t.tiu, liu.tx.state := t.liu.tx.state } ∧
    t.hb = { s.hb with pMode := pMode, pGrant := t.hb.pGrant, iMot := t.hb.iMot } ∧
    (s.mdu.motor ≠ .run → t.hb.pGrant = 0) ∧
    (s.mdu.motor = .run → pCap < s.hb.pGrant → t.hb.pGrant = pCap) ∧
    (s.mdu.motor = .run → s.hb.pGrant ≤ pCap → period = true → t.hb.pGrant = min pCap (s.hb.pGrant + 40)) ∧
    (s.mdu.motor = .run → s.hb.pGrant ≤ pCap → period = false → t.hb.pGrant = s.hb.pGrant) ∧
    t.hb.pGrant ≤ min t.hb.pMode pAvail ∧
    (c.vFloor ≤ s.hb.vbus → s.mdu.motor = .run →
      t.hb.iMot = min 25500 (max t.hb.pGrant (min c.startPower pCap) * 10000 / s.hb.vbus)) ∧
    (c.vFloor ≤ s.hb.vbus → s.mdu.motor = .align ∨ s.mdu.motor = .ramp →
      t.hb.iMot = min 25500 (min c.startPower pCap * 10000 / s.hb.vbus)) ∧
    (c.vFloor ≤ s.hb.vbus → s.mdu.motor.driven = false → t.hb.iMot = 0) ∧
    (s.hb.vbus < c.vFloor → t.hb.iMot = s.hb.iMot) ∧
    (s.hb.vbus < c.vFloor → t = { s with hb := t.hb }.raiseRec .busLow) ∧
    (c.vFloor ≤ s.hb.vbus → t = State.clearRec .bgu .busLow { s with hb := t.hb } ∧ t.has .busLow = false)

/-- R42, R48, R49, R53, R58, R63, R66: what a change of motor state sets, and its event at the budget, the dirt windows,
the draw and the head output. At the budget it ends POWER_LIMITED with its counts where RUN is left (R37), and is one
computation of the grant (R31); a change from or to STOPPED requests the draw urgently (R9), another requests nothing of its
own. The rest of the state is as it was. The miss count at 0 on the entry to RUN (log 15) and the entry to ALIGN as the first
reference of the crossings (log 14) are the model's reading. -/
def Obligations.MotorStateChange : Prop :=
  ∀ (m : Motor) (s : State), s.role = some .handle → let t := s.setMotor m
    let left := if s.mdu.motor = .run then State.clearRec .bgu .powerLimited { s with hb.limited := 0, hb.equal := 0 }
      else s
    let g := State.computeGrant false { left with mdu := t.mdu }
    t = { s with
      mdu := t.mdu, hb := t.hb, cdu := t.cdu, tiu := t.tiu, liu.tx.state := t.liu.tx.state, head := t.head
      dsu := { s.dsu with disturbed := true } } ∧
    t.mdu = { s.mdu with
      motor := m, wakeWait := none
      alignTimer := if m = Motor.align then some s.clock else none
      rampTimer := if m = Motor.ramp then some s.clock else none
      retryTimer := if m = Motor.coast .retry then some s.clock else none
      setpointTimer := if m = Motor.run then some s.clock else none
      sCur := if m = Motor.run then s.mdu.speed else 0
      drive := if m.wire = 4 then 0 else s.mdu.drive
      validCount := if m = Motor.ramp ∨ m = Motor.coast .catch_ then 0 else s.mdu.validCount
      missCount := if m = Motor.run then 0 else s.mdu.missCount
      lastCommutation := if m = Motor.align then some s.clock else s.mdu.lastCommutation
      bridgeOff := if m.driven = true ∨ m.wire = 4 then false else s.mdu.bridgeOff } ∧
    t.hb = g.hb ∧ t.cdu = g.cdu ∧ t.tiu = g.tiu ∧
    t.liu = (if s.mdu.motor = .stopped ∨ m = .stopped then (g.requestState true).liu else g.liu) ∧
    (m ≠ .run → t.hb.pGrant = 0) ∧
    (s.mdu.motor = .run → t.hb.limited = 0 ∧ t.hb.equal = 0 ∧ t.has .powerLimited = false) ∧
    (s.mdu.motor = .stopped ∨ m = .stopped → s.ssc.doze ≠ .dozing → t.liu.tx.state.isSome = true) ∧
    t.head = { s.head with output := t.head.output, jamTimer := t.head.jamTimer } ∧
    (s.head.output = .off → t.head.output = if m = Motor.run ∧ s.head.present = true then .on else .off) ∧
    (s.head.output = .on → m ≠ .run → t.head.output = .off ∧ t.head.jamTimer = none) ∧
    (s.head.output = .jamOff ∨ s.head.output = .lockedOff → t.head = s.head)

/-! ### Periods and readings -/

/-- R8, R10, R18, R19: a publish period expiry. Every entry ages by the table, the state notice is requested (but at a DOCK
in UNDOCKED), the ROLE_CLASH quiet count and a PACK's profile period count go on.
R47, R115, R117, R128, R129, R146: what the changes of the entries do: PACK_LOST at a HANDLE whose motor is not STOPPED,
and the end of PACK_TRIPPED with the entry; at a DOCK the end of a run or an offer, and a suspended run that resumes; at a
PACK the end of ACCEPT, and the resting choice. -/
def Obligations.PublishPeriodExpiry : Prop :=
  ∀ (r : Role) (dt : Nat) (s : State), s.Ready r → s.pv.publishTimer.isSome →
    let aged := fun {α : Type} (e : PeerEntry α) =>
      if e.state = .absent ∨ e.state = .dozing then e
      else if 40 ≤ e.age + 1 then
        { e with tag := none, state := .absent, age := 0, lastSeq := none, lastProfileSeq := none, stored := none }
      else { e with
        age := e.age + 1
        state := if e.age + 1 ≤ 2 then .fresh else if e.age + 1 ≤ 7 then .stale else .lost }
    ∃ t, exec (.publishPeriodExpiry dt) s = .next t ∧ t.pv.publishTimer = some (s.clock + dt) ∧
      t.pv.pack = aged s.pv.pack ∧ t.pv.handle = aged s.pv.handle ∧ t.pv.dock = aged s.pv.dock ∧
      ((aged s.pv.pack).state = .absent → t.pv.slot = none ∧ t.pv.behind = false) ∧
      ((aged s.pv.pack).state ≠ .absent → t.pv.slot = s.pv.slot ∧ t.pv.behind = s.pv.behind) ∧
      (r ≠ .dock ∨ s.ccu.run ≠ .undocked → t.liu.tx.state.isSome = true) ∧
      (r = .dock → s.ccu.run = .undocked → t.liu.tx.state = s.liu.tx.state) ∧
      (r = .handle → s.pv.pack.state ≠ .absent → (aged s.pv.pack).state = .absent → t.has .packTripped = false) ∧
      (r = .handle → s.pv.pack.state ≠ (aged s.pv.pack).state →
        (aged s.pv.pack).state = .lost ∨ (aged s.pv.pack).state = .absent → s.mdu.motor ≠ .stopped →
        hasActive t.cdu .packLost = true) ∧
      (r = .dock → s.pv.pack.state ≠ (aged s.pv.pack).state →
        (aged s.pv.pack).state = .lost ∨ (aged s.pv.pack).state = .absent →
        (s.ccu.run = .offer ∨ s.ccu.run = .rest → t.ccu.run = .idle) ∧
        (s.ccu.run.running = true → t.ccu.run = .idle ∧ t.ccu.conv = .off ∧ t.db.iSet = 0 ∧
          t.ccu.history = enterHistory ⟨s.ccu.runNumber, .packLost, s.ccu.delivered, 0, s.ccu.startSoc, s.ccu.lastSoc,
            s.ccu.peak⟩ s.ccu.history)) ∧
      (r = .dock → s.ccu.run = .suspended → s.hasHold = false → (aged s.pv.pack).state = s.pv.pack.state →
        s.pv.handle.state ≠ (aged s.pv.handle).state →
        (aged s.pv.handle).state = .lost ∨ (aged s.pv.handle).state = .absent → t.ccu.run = .active) ∧
      (r = .pack → s.pv.dock.state ≠ (aged s.pv.dock).state →
        (s.path.field = .accept → (aged s.pv.dock).state = .lost ∨ (aged s.pv.dock).state = .absent →
          t.path.field = .none ∧ t.path.notedRun = none ∧ t.path.fullTimer = none ∧ t.cmu.csw = false) ∧
        (s.path.field = .accept → (aged s.pv.dock).state = .stale →
          s.has .roleClash = false ∨ s.pv.quietCount < 19 ∨ s.pb.chargeLimit = 0 → t.path.field = .accept) ∧
        (s.path.field ≠ .accept → (aged s.pv.dock).state ≠ .fresh → t.path.field = .none)) ∧
      (s.has .roleClash = true → s.pv.quietCount < 19 → t.pv.quietCount = s.pv.quietCount + 1 ∧
        t.has .roleClash = true) ∧
      (s.has .roleClash = true → s.pv.quietCount = 19 → t.pv.quietCount = 20 ∧ t.has .roleClash = false) ∧
      (s.has .roleClash = false → t.pv.quietCount = s.pv.quietCount) ∧
      (r = .pack → s.pv.profileCount < 99 → t.pv.profileCount = s.pv.profileCount + 1) ∧
      (r = .pack → s.pv.profileCount = 99 → t.pv.profileCount = 0 ∧ t.liu.tx.profile.isSome = true) ∧
      (r = .handle → s.pv.pack.state = .absent → s.pv.dock.state = .absent → s.pv.handle.state = .absent →
        s.has .roleClash = false → s.liu.tx.state = none → s.pv.slot = none → s.pv.behind = false →
        State.EndsAs { s.advance dt with
          pv.publishTimer := some (s.clock + dt), liu.tx.state := some ⟨false, 0, 0, 0, none, false⟩ } t)

/-- R31, R36, R37: a budget period expiry. The bus voltage is read, the grant computed, and the three counts go on:
SUPPLY_LOST at the third period below the floor, POWER_LIMITED after 200 limited ones, gone after 100 equal ones.
R38 to R41, R9: a dock period expiry with no temperature condition present. The thermistor is read, the five figures
formed, and the setpoint rises by at most 100 mA. A fall of the capability requests the dock status urgently.
R128, R131, R133: at T_d1 DOCK_HOT is raised, at T_d2 DOCK_OVERHEAT, a HOLD that suspends the run and stops the
converter. Each goes below its temperature less 5, the run then going on, and stays as it is between the two. -/
def Obligations.BudgetAndDockPeriods : Prop :=
  (∀ (dt v : Nat) (s : State), s.Ready .handle → s.hb.timer.isSome →
    let g := State.computeGrant true { s.advance dt with hb.timer := some (s.clock + dt), hb.vbus := v }
    let floor := s.settings.handle.vFloor
    ∃ t, exec (.budgetPeriodExpiry dt v) s = .next t ∧
      (floor ≤ v → s.has .supplyLost = false → s.mdu.motor ≠ .run → State.EndsAs { g with hb.belowFloor := 0 } t) ∧
      (floor ≤ v → s.has .supplyLost = false → s.mdu.motor = .run → g.hb.pGrant < g.hb.pMode → s.hb.limited < 199 →
        State.EndsAs { g with hb.belowFloor := 0, hb.limited := s.hb.limited + 1, hb.equal := 0 } t) ∧
      (floor ≤ v → s.has .supplyLost = false → s.mdu.motor = .run → g.hb.pGrant < g.hb.pMode → s.hb.limited = 199 →
        State.EndsAs (State.raiseRec .powerLimited
          { g with hb.belowFloor := 0, hb.limited := 200, hb.equal := 0 }) t) ∧
      (floor ≤ v → s.has .supplyLost = false → s.mdu.motor = .run → g.hb.pMode ≤ g.hb.pGrant → s.hb.equal < 99 →
        State.EndsAs { g with hb.belowFloor := 0, hb.limited := 0, hb.equal := s.hb.equal + 1 } t) ∧
      (floor ≤ v → s.has .supplyLost = false → s.mdu.motor = .run → g.hb.pMode ≤ g.hb.pGrant → 99 ≤ s.hb.equal →
        t.has .powerLimited = false ∧ t.hb.equal = 100 ∧ t.hb.limited = 0) ∧
      (floor ≤ v → t.has .supplyLost = false ∧ t.hb.belowFloor = 0) ∧
      (v < floor → s.hb.belowFloor < 2 → s.mdu.motor ≠ .run →
        State.EndsAs { g with hb.belowFloor := s.hb.belowFloor + 1 } t) ∧
      (v < floor → s.hb.belowFloor = 2 → s.cdu = [] → s.mdu.motor = .run →
        t.hb.belowFloor = 3 ∧ hasActive t.cdu .supplyLost = true ∧ t.mdu.motor = .coast .hold ∧ t.hb.pGrant = 0 ∧
        t.hb.iMot = s.hb.iMot)) ∧
  (∀ (dt : Nat) (temp : Int) (s : State), s.Ready .dock → s.db.timer.isSome →
    let d := s.settings.dock
    ∃ t, exec (.dockPeriodExpiry dt temp) s = .next t ∧
      (temp < d.tD1 - 5 → t.has .dockHot = false) ∧
      (d.tD1 - 5 ≤ temp → temp < d.tD1 → t.has .dockHot = s.has .dockHot) ∧
      (temp < d.tD2 - 5 → t.has .dockOverheat = false ∧
        (∀ n k, s.cdu = [⟨.dockOverheat, n, k, .active⟩] → s.ccu.run = .suspended → s.pv.handle.state = .absent →
          t.ccu.run = .active)) ∧
      (d.tD2 - 5 ≤ temp → temp < d.tD2 → t.has .dockOverheat = s.has .dockOverheat)) ∧
  ∀ (dt : Nat) (temp : Int) (s : State), s.Ready .dock → s.db.timer.isSome → s.has .dockHot = false →
    s.has .dockOverheat = false →
    let u := s.advance dt
    let d := s.settings.dock
    let f := dockFactor temp d.tD1 d.tD2
    let c := if s.has .supplyWeak then d.iDockSet * f / 256 / 2 else d.iDockSet * f / 256
    let iPc := match s.pv.pack.state, s.pv.pack.stored with
      | .fresh, some p => p.chargeLimit.toNat * 20
      | .stale, some p => p.chargeLimit.toNat / 2 * 20
      | _, _ => 0
    let iPf := match s.pv.slot with
      | some x => x.profile.maxCharge.toNat * 20
      | none => if s.ccu.passMode then 500 else 0
    let iTgt := if s.ccu.credit = 0 then 0 else min iPc (min iPf (c * 100))
    let iSet := if s.ccu.conv = .off then 0 else if iTgt < s.db.iSet then iTgt else min iTgt (s.db.iSet + 100)
    let vCeil := if s.pv.pack.state = .absent then 0 else match s.pv.pack.stored, s.pv.slot with
      | none, _ => 0
      | some p, some x =>
        min (p.target.toNat * 10) (min (x.profile.cells.toNat * x.profile.cellMax.toNat) d.vMax)
      | some p, none => if s.ccu.passMode then min (p.target.toNat * 10) d.vMax else 0
    let w : State := { u with db := ⟨some u.clock, f, c, iTgt, iSet, vCeil, temp⟩ }
    (temp < d.tD1 → temp < d.tD2 → s.db.cap ≤ c →
      ∃ t, exec (.dockPeriodExpiry dt temp) s = .next t ∧ w.EndsAs t) ∧
    (temp < d.tD1 → temp < d.tD2 → c < s.db.cap →
      ∃ t, exec (.dockPeriodExpiry dt temp) s = .next t ∧ (w.requestState true).EndsAs t) ∧
    (d.tD1 ≤ temp → ∃ t, exec (.dockPeriodExpiry dt temp) s = .next t ∧ hasActive t.cdu .dockHot = true) ∧
    (d.tD2 ≤ temp → ∃ t, exec (.dockPeriodExpiry dt temp) s = .next t ∧ hasActive t.cdu .dockOverheat = true ∧
      t.ccu.conv = .off ∧ t.ccu.run ≠ .active)

/-- R27: the temperature factor f_T, its cases in order, from the temperature and the settings, whose defaults are -10,
50 and 60; and the three figures the rule works out. Beside it the factors and the figure that the pack's limits are formed
with: the voltage factor f_V (R26), the charge factor f_C (R29), and the charge voltage target (R30) with its two figures. -/
def Obligations.TemperatureFactor : Prop :=
  (∀ s : State, s.cmu.swept = true → s.packNumbers.pb.fT =
    temperatureFactor s.pb.temp s.settings.pack.tCold s.settings.pack.tHot1 s.settings.pack.tHot2) ∧
  (∀ (t cold hot1 hot2 : Int), temperatureFactor t cold hot1 hot2 =
    if t < cold then 64 else if hot2 ≤ hot1 ∧ t < hot2 then 256 else if hot2 ≤ hot1 ∧ hot2 ≤ t then 0
    else if t ≤ hot1 then 256 else if hot2 ≤ t then 0 else (256 * (hot2 - t) / (hot2 - hot1)).toNat) ∧
  (∀ vmin cut soft : Nat, voltageFactor vmin cut soft =
    if soft ≤ cut ∧ cut < vmin then 256 else if soft ≤ cut ∧ vmin ≤ cut then 0 else if soft ≤ vmin then 256
    else if vmin ≤ cut then 0 else 256 * (vmin - cut) / (soft - cut)) ∧
  (∀ t low high : Int, chargeFactor t low high =
    if high < low then 0 else if t < low ∨ high < t then 0 else if t < low + 10 then 128 else 256) ∧
  (∀ s : State, s.cmu.swept = true → s.packNumbers.pb.target =
    (s.settings.pack.cellCount * s.settings.pack.cellMax
      - (if s.gauge.health < 80 then s.settings.pack.cellCount * 50 else 0)) / 10) ∧
  chargeTarget 7 4200 80 = 2940 ∧ chargeTarget 7 4200 79 = 2905 ∧
  defaultSettings.pack.tCold = -10 ∧ defaultSettings.pack.tHot1 = 50 ∧ defaultSettings.pack.tHot2 = 60 ∧
  temperatureFactor 51 (-10) 50 60 = 230 ∧ temperatureFactor 55 (-10) 50 60 = 128 ∧
  temperatureFactor 59 (-10) 50 60 = 25

/-- R39: the dock factor f_D, its cases in order, and the capability, halved while SUPPLY_WEAK is present, as the dock
status carries it after a computation; the defaults are 70, 85 and 30. -/
def Obligations.DockFactorAndCapability : Prop :=
  (∀ (t d1 d2 : Int), dockFactor t d1 d2 =
    if d2 ≤ d1 ∧ t < d2 then 256 else if d2 ≤ d1 ∧ d2 ≤ t then 0 else if t ≤ d1 then 256 else if d2 ≤ t then 0
    else (256 * (d2 - t) / (d2 - d1)).toNat) ∧
  defaultSettings.dock.tD1 = 70 ∧ defaultSettings.dock.tD2 = 85 ∧ defaultSettings.dock.iDockSet = 30 ∧
  ∀ (period : Bool) (s : State), let t := s.dockCompute period
    let f := dockFactor s.db.temp s.settings.dock.tD1 s.settings.dock.tD2
    let c := s.settings.dock.iDockSet * f / 256
    t.db.fD = f ∧ t.db.cap = (if s.has .supplyWeak then c / 2 else c) ∧ t.dockStatusNow.capability = fit8 t.db.cap

/-- R25, R104: a pack temperature reading, limited to the range of the part. After the first sweep it is a computation
of the limits; T_hot2 or above is PACK_HOT, which cuts; below
T_hot2 - 5 it goes, and the switches return where nothing else holds them; between the two it stays as it is.
R64: a handle temperature reading. From 75 to 80 it changes neither condition; above 80 it raises HANDLE_HOT, above
95 HANDLE_OVERHEAT, which takes a running motor to COAST with aim HOLD; below 75 it clears both. -/
def Obligations.TemperatureReadings : Prop :=
  (∀ (dt : Nat) (temp : Int) (s : State), s.Ready .pack →
    let p := s.settings.pack
    let T := max (-40) (min 125 temp)
    let u := s.advance dt
    (s.cmu.swept = false → s.cdu = [] → T < p.tHot2 →
      ∃ t, exec (.packTemperatureReading dt temp) s = .next t ∧
        State.EndsAs { u with ssc.thermTimer := some u.clock, pb.temp := T } t) ∧
    (s.cmu.swept = true → ∃ t, exec (.packTemperatureReading dt temp) s = .next t ∧ t.pb.temp = T ∧
      t.pb.fV = voltageFactor s.cmu.vmin p.cellMin p.vSoft ∧ t.pb.fT = temperatureFactor T p.tCold p.tHot1 p.tHot2 ∧
      t.pb.fC = chargeFactor T p.tChgLow p.tChgHigh ∧ t.pb.iDis = p.maxDischarge * min t.pb.fV t.pb.fT / 256 ∧
      t.pb.dischargeLimit = (if t.cmu.dsw = Dsw.on then t.pb.iDis else 0) ∧
      t.pb.chargeLimit = (if t.chargeHeld then 0 else p.maxCharge * t.pb.fC / 256) ∧
      t.has .chargeTempRefused = decide (t.pb.fC = 0)) ∧
    (p.tHot2 ≤ T → s.ChargeSafe → s.DischargeSafe → ∃ t, exec (.packTemperatureReading dt temp) s = .next t ∧
      hasActive t.cdu .packHot = true ∧ t.cmu.csw = false ∧ t.cmu.dsw ≠ .on) ∧
    (p.tHot2 - 5 ≤ T → T < p.tHot2 → ∃ t, exec (.packTemperatureReading dt temp) s = .next t ∧
      t.has .packHot = s.has .packHot) ∧
    (T < p.tHot2 - 5 → ∃ t, exec (.packTemperatureReading dt temp) s = .next t ∧ t.has .packHot = false ∧
      (∀ n k, s.cdu = [⟨.packHot, n, k, .active⟩] → s.ChargeSafe →
        (s.cmu.swept = true → 0 < voltageFactor s.cmu.vmin p.cellMin p.vSoft) →
        t.cmu.dsw = .on ∧ (t.cmu.csw = true ↔ t.path.field = .accept)))) ∧
  (∀ (dt : Nat) (temp : Int) (s : State), s.Runs .handle →
    let u : State := { s.advance dt with ssc.thermTimer := some (s.clock + dt) }
    (75 ≤ temp → temp ≤ 80 → ∃ t, exec (.handleTemperatureReading dt temp) s = .next t ∧ u.EndsAs t) ∧
    (temp < 75 → s.has .handleHot = false → s.has .handleOverheat = false →
      ∃ t, exec (.handleTemperatureReading dt temp) s = .next t ∧ u.EndsAs t) ∧
    (80 < temp → temp ≤ 95 → s.has .handleHot = false → ∃ t, exec (.handleTemperatureReading dt temp) s = .next t ∧
      State.EndsAs ((u.raiseRec .handleHot).computeGrant false) t) ∧
    (95 < temp → s.cdu = [] → s.mdu.motor = .run → ∃ t, exec (.handleTemperatureReading dt temp) s = .next t ∧
      hasActive t.cdu .handleHot = true ∧ hasActive t.cdu .handleOverheat = true ∧ t.mdu.motor = .coast .hold) ∧
    (temp < 75 → ∃ t, exec (.handleTemperatureReading dt temp) s = .next t ∧ t.has .handleHot = false ∧
      t.has .handleOverheat = false))

/-- R177, R72: the idle timer's expiry is doze entry. The transmit set keeps only the doze notice, requested urgently;
the period timers stop; a HANDLE's dirt windows stop with their memory emptied; a DOCK in UNDOCKED dozes at once.
R179: no doze entry follows a wake cause taken first at the same moment; that the timer then starts afresh is the model's
choice (log 41).
R177: after every command the timer runs exactly in AWAKE with the idle condition of the role and A at 0; one that did not
run starts at that moment, one that runs on keeps its start. -/
def Obligations.IdleTimer : Prop :=
  (∀ (r : Role) (dt : Nat) (s : State), s.Ready r → s.ssc.idleTimer.isSome → s.ssc.causeAt ≠ some (s.clock + dt) →
    (∀ f, s.liu.line ≠ .sending f) →
    let u := s.advance dt
    let w : State := { u with
      ssc.doze := .entering, liu.tx := ⟨some ⟨true, 0, 0, 0, none, false⟩, none, none⟩, liu.waiting := none
      pv.publishTimer := none, hb.timer := none, db.timer := none }
    (r = .pack → ∃ t, exec (.idleTimerExpiry dt) s = .next t ∧ w.EndsAs t ∧ t.ssc.idleTimer = none) ∧
    (r = .dock → s.ccu.run ≠ .undocked → ∃ t, exec (.idleTimerExpiry dt) s = .next t ∧ w.EndsAs t ∧
      t.ssc.idleTimer = none) ∧
    (r = .dock → s.ccu.run = .undocked → ∃ t, exec (.idleTimerExpiry dt) s = .next t ∧
      State.EndsAs { w with ssc.doze := .dozing, liu.tx := ⟨none, none, none⟩ } t ∧ t.ssc.idleTimer = none) ∧
    (r = .handle → s.dsu.boost = 0 → ∃ t, exec (.idleTimerExpiry dt) s = .next t ∧
      State.EndsAs { w with
        dsu := { s.dsu with
          windowTimer := none, deadTime := none, ring := [], score := 0, level := 0, boost := 0, unsettled := 0
          decay := 0, quiet := 0, pinnedCount := 0 } } t ∧ t.ssc.idleTimer = none ∧ t.tiu.gauge.lit = 0)) ∧
  (∀ (r : Role) (dt : Nat) (s : State), s.Ready r → s.ssc.causeAt = some (s.clock + dt) →
    ∃ t, exec (.idleTimerExpiry dt) s = .next t ∧ (s.advance dt).EndsAs t) ∧
  (∀ (r : Role) (dt : Nat) (c : Instr) (s : State), s.Ready r →
    c = .lineWake dt ∨ (r = .handle ∧ (c = .modePress dt ∨ (c = .triggerPress dt ∧ s.mdu.phaseWatch = none))) ∨
      (r = .dock ∧ s.ccu.run = .undocked ∧ c = .csRise dt) →
    ∃ t v, exec c s = .next t ∧ exec (.idleTimerExpiry 0) t = .next v ∧ v.ssc.doze = .awake) ∧
  (∀ (r : Role) (c : Instr) (s t : State), s.Runs r → (∀ dt straps tag block, c ≠ .powerOnReset dt straps tag block) →
    (∀ dt tag block, c ≠ .supplyDipReset dt tag block) → (∀ dt f, c ≠ .endOfStartUp dt f) →
    (∀ dt b, c ≠ .supplyFall dt b) → exec c s = .next t →
    let idle := match r with
      | .handle => t.mdu.trigger = false ∧ t.mdu.motor = .stopped
      | .pack => t.cmu.current.natAbs < 50 ∧ t.path.field ≠ .accept
      | .dock => t.ccu.run = .undocked ∨ t.ccu.run = .idle ∨ t.ccu.run = .rest
    (t.ssc.idleTimer.isSome = true ↔ t.ssc.doze = .awake ∧ idle ∧ t.tiu.level = 0) ∧
    (s.ssc.idleTimer = none → t.ssc.idleTimer = none ∨ t.ssc.idleTimer = some t.clock) ∧
    (∀ m, s.ssc.idleTimer = some m → (∀ dt, c ≠ .idleTimerExpiry dt) →
      t.ssc.idleTimer = none ∨ t.ssc.idleTimer = some m))

/-! ### Suction motor and head output -/

/-- R44 to R48, R59, R86: a trigger press, and a trigger found pressed at the end of the phase watch, at an awake HANDLE.
From STOPPED the start goes by the list, the PACK entry and the speed; in COAST with aim STOP by R59. A press during the
watch is not taken, nor is a released trigger at its end. A press taken while awake is noted as a wake cause (log 41). -/
def Obligations.TriggerPress : Prop :=
  ∀ (dt : Nat) (s : State), s.Ready .handle →
    let u := s.advance dt
    let heard := s.pv.pack.state = .fresh ∨ s.pv.pack.state = .stale
    let pressed := fun cause : Option Nat => { u with
      ssc.causeAt := cause
      mdu := { u.mdu with phaseWatch := none, trigger := true, failedStarts := 0 }
      dsu.tally := 0
      tiu.click := if s.tiu.level = 0 then some u.clock else s.tiu.click }
    (s.mdu.phaseWatch.isSome → ∃ t, exec (.triggerPress dt) s = .next t ∧ u.EndsAs t) ∧
    (s.mdu.phaseWatch.isSome → ∃ t, exec (.phaseWatchEnd dt false) s = .next t ∧
      State.EndsAs { u with mdu.phaseWatch := none } t) ∧
    ∀ c cause, (c = .triggerPress dt ∧ s.mdu.phaseWatch = none ∧ cause = some u.clock) ∨
        (c = .phaseWatchEnd dt true ∧ s.mdu.phaseWatch.isSome = true ∧ cause = s.ssc.causeAt) →
      let p : State := pressed cause
      (s.mdu.motor = .stopped → s.clearToRun = false → ∃ t, exec c s = .next t ∧ p.EndsAs t) ∧
      (s.mdu.motor = .stopped → s.clearToRun = true → heard → u.mdu.speed < 3000 →
        ∃ t, exec c s = .next t ∧ (p.setMotor .align).EndsAs t) ∧
      (s.mdu.motor = .stopped → s.clearToRun = true → heard → 3000 ≤ u.mdu.speed → u.mdu.speed < 12000 →
        ∃ t, exec c s = .next t ∧ (p.setMotor (.coast .settle)).EndsAs t) ∧
      (s.mdu.motor = .stopped → s.clearToRun = true → heard → 12000 ≤ u.mdu.speed →
        ∃ t, exec c s = .next t ∧ (p.setMotor (.coast .catch_)).EndsAs t) ∧
      (s.mdu.motor = .stopped → s.clearToRun = true → s.pv.pack.state = .lost → u.mdu.speed < 3000 →
        ∃ t, exec c s = .next t ∧ ((p.raiseRec .packLost).setMotor .align).EndsAs t) ∧
      (s.mdu.motor = .stopped → s.clearToRun = true → s.pv.pack.state = .absent ∨ s.pv.pack.state = .dozing →
        ∃ t, exec c s = .next t ∧
          State.EndsAs { p with mdu.wakeWait := some u.clock, liu.wakeRequest := true } t) ∧
      (s.mdu.motor = .coast .stop → s.hasTrip = true → ∃ t, exec c s = .next t ∧ p.EndsAs t) ∧
      (s.mdu.motor = .coast .stop → s.hasTrip = false → s.hasHold = true → s.mdu.bridgeOff = false →
        ∃ t, exec c s = .next t ∧ State.EndsAs { p with
          mdu := { p.mdu with motor := .coast .hold, retryTimer := none } } t) ∧
      (s.mdu.motor = .coast .stop → s.clearToRun = true → 12000 ≤ u.mdu.speed →
        ∃ t, exec c s = .next t ∧ State.EndsAs { p with
          mdu := { p.mdu with motor := .coast .catch_, retryTimer := none, validCount := 0 } } t)

/-- R46, R58 to R60, R62, R66, R68, R86, R141: a trigger release. The motor goes by its state; the LATCHED records go and
the ACTIVE TRIPs stay; the jam history is emptied, LOCKED_OFF ends with BRUSH_JAM, and DIRT_SENSOR_FAULT is cleared. -/
def Obligations.TriggerRelease : Prop :=
  ∀ (dt : Nat) (s : State), s.Runs .handle → s.mdu.phaseWatch = none →
    let u := s.advance dt
    let q : State := { u with
      mdu := { u.mdu with trigger := false }
      dsu := { u.dsu with quiet := 0, pinnedCount := 0 } }
    let calm := s.has .dirtSensorFault = false ∧ latchedCodes s.cdu = [] ∧ s.head.output ≠ .lockedOff
    (calm → s.mdu.motor = .stopped → ∃ t, exec (.triggerRelease dt) s = .next t ∧
      State.EndsAs { q with mdu := { q.mdu with wakeWait := none }, head.jamHistory := [] } t) ∧
    (calm → s.mdu.motor.driven = true → ∃ t, exec (.triggerRelease dt) s = .next t ∧
      State.EndsAs { q.setMotor (.coast .stop) with head.jamHistory := [] } t) ∧
    (∀ a, calm → s.mdu.motor = .coast a → ∃ t, exec (.triggerRelease dt) s = .next t ∧
      t.mdu.motor = .coast .stop ∧ t.head.jamHistory = [] ∧ t.mdu.failedStarts = s.mdu.failedStarts) ∧
    (calm → s.mdu.motor = .held → u.mdu.speed < 1000 → ∃ t, exec (.triggerRelease dt) s = .next t ∧
      State.EndsAs { q.setMotor .stopped with head.jamHistory := [] } t) ∧
    (calm → s.mdu.motor = .held → 1000 ≤ u.mdu.speed → ∃ t, exec (.triggerRelease dt) s = .next t ∧
      State.EndsAs { q.setMotor (.coast .stop) with head.jamHistory := [] } t) ∧
    (s.ListOk → ∃ t, exec (.triggerRelease dt) s = .next t ∧ t.has .dirtSensorFault = false ∧ latchedCodes t.cdu = [] ∧
      (∀ c, c.kind .handle = .trip → hasActive s.cdu c = true → hasActive t.cdu c = true)) ∧
    (s.head.output = .lockedOff → ∃ t, exec (.triggerRelease dt) s = .next t ∧ t.head.output = .off ∧
      t.has .brushJam = false ∧ t.head.jamHistory = [])

/-- R46, R48, R50: the expiries of the wake wait, the align timer, the ramp timer and the retry timer. -/
def Obligations.MotorTimers : Prop :=
  ∀ (dt : Nat) (s : State), s.Runs .handle →
    let u := s.advance dt
    (s.mdu.motor = .stopped → s.mdu.wakeWait.isSome → u.mdu.speed < 3000 →
      ∃ t, exec (.wakeWaitExpiry dt) s = .next t ∧
        State.EndsAs ((State.raiseRec .packLost { u with mdu := { u.mdu with wakeWait := none } }).setMotor .align) t) ∧
    (s.mdu.motor = .align → ∃ t, exec (.alignTimerExpiry dt) s = .next t ∧ (u.setMotor .ramp).EndsAs t) ∧
    (s.mdu.motor = .ramp → s.mdu.failedStarts < 2 → ∃ t, exec (.rampTimerExpiry dt) s = .next t ∧
      State.EndsAs (State.setMotor (.coast .retry)
        { u with mdu := { u.mdu with failedStarts := s.mdu.failedStarts + 1 } }) t) ∧
    (s.mdu.motor = .ramp → s.mdu.failedStarts = 2 → s.has .startFail = false →
      ∃ t, exec (.rampTimerExpiry dt) s = .next t ∧ State.EndsAs ((State.raiseRec .startFail
        { u with mdu := { u.mdu with failedStarts := 3 } }).setMotor (.coast .stop)) t) ∧
    (s.mdu.motor = .coast .retry → s.mdu.retryTimer.isSome → s.mdu.trigger = true → s.clearToRun = true →
      s.pv.pack.state = .fresh ∨ s.pv.pack.state = .stale → u.mdu.speed < 3000 →
      ∃ t, exec (.retryTimerExpiry dt) s = .next t ∧
        State.EndsAs (State.setMotor .align { u with mdu := { u.mdu with retryTimer := none } }) t) ∧
    (s.mdu.motor = .coast .retry → s.mdu.retryTimer.isSome → s.mdu.trigger = true → s.clearToRun = true →
      s.pv.pack.state = .lost ∨ s.pv.pack.state = .absent ∨ s.pv.pack.state = .dozing → u.mdu.speed < 3000 →
      ∃ t, exec (.retryTimerExpiry dt) s = .next t ∧ State.EndsAs
        ((State.raiseRec .packLost { u with mdu := { u.mdu with retryTimer := none } }).setMotor .align) t) ∧
    (s.mdu.motor = .coast .retry → s.mdu.retryTimer.isSome → s.hasHold = true → s.hasTrip = false →
      s.mdu.bridgeOff = true → ∃ t, exec (.retryTimerExpiry dt) s = .next t ∧
        State.EndsAs (State.setMotor .held { u with mdu := { u.mdu with retryTimer := none } }) t)

/-- R43, R49, R54, R55, R61: a back-EMF crossing. In RUN one in its window commutates, is read as the speed, and moves the
drive level one step toward the setpoint; one outside is ignored. In RAMP it counts toward lock, the 24th takes the motor
to RUN, and one outside sets the count to 0. In CATCH one outside settles. ALIGN reads none; the other states read the
speed alone. An interval of 0 reads a free speed (log 10). That CATCH measures from the last valid crossing, that ALIGN
reads none, that the freewheeling states read all, that the lock is a commutation and that a window includes its bounds are
the model's reading (log 14). -/
def Obligations.ZeroCrossing : Prop :=
  ∀ (dt : Nat) (s : State), s.Runs .handle →
    let u := s.advance dt
    let pp := s.settings.handle.polePairs
    let inside := fun (expected : Nat) (mark : Option Nat) =>
      ∃ m, mark = some m ∧ expected ≤ 2 * (u.clock - m) ∧ 2 * (u.clock - m) ≤ 3 * expected
    let speed := match s.mdu.lastValid with
      | none => u.mdu.speed
      | some m => if u.clock = m then Config.speedOfNoInterval pp else 10000000 / (pp * (u.clock - m))
    let present := if u.mdu.speed = 0 then Config.intervalAtRest pp else 10000000 / (pp * u.mdu.speed)
    let commanded := 10000000 / (pp * match s.mdu.rampTimer with
      | none => 600
      | some m => if 300000 ≤ u.clock - m then 12000 else 600 + 11400 * (u.clock - m) / 300000)
    let seen : Mdu := { u.mdu with lastValid := some u.clock, speed := speed }
    ((∀ m, s.mdu.lastValid = some m → m ≤ u.clock)) →
    (s.mdu.motor = .run → inside present s.mdu.lastCommutation → ∃ t, exec (.zeroCrossing dt) s = .next t ∧
      State.EndsAs { u with mdu := { seen with
        missCount := 0, lastCommutation := some u.clock
        drive := if s.mdu.sCur < speed then s.mdu.drive - 1
          else if speed < s.mdu.sCur ∧ s.mdu.busCurrent ≤ s.hb.iMot then min 1000 (s.mdu.drive + 1)
          else s.mdu.drive } } t) ∧
    (s.mdu.motor = .run → ¬ inside present s.mdu.lastCommutation →
      ∃ t, exec (.zeroCrossing dt) s = .next t ∧ u.EndsAs t) ∧
    (s.mdu.motor = .ramp → inside commanded s.mdu.lastCommutation → s.mdu.validCount < 23 →
      ∃ t, exec (.zeroCrossing dt) s = .next t ∧
        State.EndsAs { u with mdu := { seen with validCount := s.mdu.validCount + 1 } } t) ∧
    (s.mdu.motor = .ramp → inside commanded s.mdu.lastCommutation → s.mdu.validCount = 23 →
      ∃ t, exec (.zeroCrossing dt) s = .next t ∧ State.EndsAs (State.setMotor .run
        { u with mdu := { seen with validCount := 24, lastCommutation := some u.clock } }) t) ∧
    (s.mdu.motor = .ramp → ¬ inside commanded s.mdu.lastCommutation → ∃ t, exec (.zeroCrossing dt) s = .next t ∧
      State.EndsAs { u with mdu := { u.mdu with validCount := 0 } } t) ∧
    (s.mdu.motor = .coast .catch_ → inside present s.mdu.lastValid → s.mdu.validCount = 23 →
      ∃ t, exec (.zeroCrossing dt) s = .next t ∧ State.EndsAs (State.setMotor .run { u with mdu := { seen with
        validCount := 24, lastCommutation := some u.clock, drive := min 1000 (1000 * speed / 120000) } }) t) ∧
    (s.mdu.motor = .coast .catch_ → inside present s.mdu.lastValid → s.mdu.validCount < 23 →
      ∃ t, exec (.zeroCrossing dt) s = .next t ∧
        State.EndsAs { u with mdu := { seen with validCount := s.mdu.validCount + 1 } } t) ∧
    (s.mdu.motor = .coast .catch_ → ¬ inside present s.mdu.lastValid → ∃ t, exec (.zeroCrossing dt) s = .next t ∧
      State.EndsAs { u with mdu := { u.mdu with motor := .coast .settle, retryTimer := none } } t) ∧
    (s.mdu.motor = .align → ∃ t, exec (.zeroCrossing dt) s = .next t ∧ u.EndsAs t) ∧
    (s.mdu.motor = .stopped ∨ s.mdu.motor = .held ∨ (∃ a, a ≠ Aim.catch_ ∧ s.mdu.motor = .coast a) → ∃ t, exec (.zeroCrossing dt) s = .next t ∧
      State.EndsAs { u with mdu := seen } t)

/-- R43, R49, R55, R56, R59, R61: twice the expected interval with no valid crossing, and the falls of the speed below
12,000, 3,000 and 1,000 rpm. The sixth miss in RUN is LOCK_LOST, and the third lock loss within 10 s START_FAIL. -/
def Obligations.MissedCrossingsAndFallingSpeed : Prop :=
  ∀ (dt : Nat) (s : State), s.Runs .handle →
    let u := s.advance dt
    let miss := fun n : Nat => { u.mdu with missCount := n, lastCommutation := some u.clock }
    let past := s.mdu.lockLoss.filter (fun x => decide (u.clock - x ≤ 10000000))
    let low := fun x : Nat => { u.mdu with speed := min u.mdu.speed (x - 1) }
    (s.mdu.motor = .run → s.mdu.missCount < 5 → ∃ t, exec (.crossingTimeout dt) s = .next t ∧
      State.EndsAs { u with mdu := miss (s.mdu.missCount + 1) } t) ∧
    (s.mdu.motor = .run → s.mdu.missCount = 5 → s.cdu = [] → past.length < 2 →
      ∃ t, exec (.crossingTimeout dt) s = .next t ∧ State.EndsAs ((State.raiseRec .lockLost
        { u with mdu := { miss 6 with lockLoss := past ++ [u.clock] } }).setMotor (.coast .hold)) t) ∧
    (s.mdu.motor = .run → s.mdu.missCount = 5 → s.cdu = [] → 2 ≤ past.length →
      ∃ t, exec (.crossingTimeout dt) s = .next t ∧ hasActive t.cdu .lockLost = true ∧
        hasActive t.cdu .startFail = true ∧ t.mdu.motor = .coast .stop ∧ t.mdu.lockLoss = []) ∧
    (s.mdu.motor = .ramp → ∃ t, exec (.crossingTimeout dt) s = .next t ∧
      State.EndsAs { u with mdu := { u.mdu with validCount := 0 } } t) ∧
    (s.mdu.motor = .coast .catch_ → ∃ t, exec (.crossingTimeout dt) s = .next t ∧
      State.EndsAs { u with mdu := { u.mdu with motor := .coast .settle, retryTimer := none } } t) ∧
    (s.has .lockLost = false → s.mdu.motor ≠ .coast .catch_ →
      ∃ t, exec (.speedFallsBelow dt .below12000) s = .next t ∧ State.EndsAs { u with mdu := low 12000 } t) ∧
    (∃ t, exec (.speedFallsBelow dt .below12000) s = .next t ∧ t.has .lockLost = false ∧ t.mdu.speed < 12000) ∧
    (s.has .lockLost = false → s.mdu.motor = .coast .catch_ →
      ∃ t, exec (.speedFallsBelow dt .below12000) s = .next t ∧
        State.EndsAs { u with mdu := { low 12000 with motor := .coast .settle, retryTimer := none } } t) ∧
    (s.mdu.motor = .coast .settle → s.pv.pack.state = .fresh ∨ s.pv.pack.state = .stale →
      ∃ t, exec (.speedFallsBelow dt .below3000) s = .next t ∧
        State.EndsAs (State.setMotor .align { u with mdu := low 3000 }) t) ∧
    (s.mdu.motor = .coast .stop → ∃ t, exec (.speedFallsBelow dt .below1000) s = .next t ∧
      State.EndsAs (State.setMotor .stopped { u with mdu := low 1000 }) t)

/-- R49, R53, R54: the setpoint steps by 200 rpm up and 400 rpm down in RUN; a bus current sample limits or raises the
drive level by one step, by motor state, in RAMP by one in all (log 37); the drive's own commutation in RAMP is the reference of the next crossing.
R55, R57 to R59, R62: the 40 A comparator takes a driven motor to COAST with MOTOR_OVERCURRENT; the bridge-off confirmation
ends the causes of MOTOR_OVERCURRENT and START_FAIL, which become LATCHED, takes an aim of HOLD to HELD, and clears
LOCK_LOST below 12,000 rpm; in STOPPED, where the motor may be by then, it does the same. -/
def Obligations.MotorSamplesAndBridge : Prop :=
  (∀ (dt i : Nat) (s : State), s.Runs .handle →
    let u := s.advance dt
    let d := s.mdu.drive
    let goal := 1000 * (match s.mdu.rampTimer with
      | none => 600
      | some m => if 300000 ≤ u.clock - m then 12000 else 600 + 11400 * (u.clock - m) / 300000) / 120000
    let sampled := fun x : Nat => ∃ t, exec (.busCurrentSample dt i) s = .next t ∧
      State.EndsAs { u with mdu := { u.mdu with busCurrent := i, drive := x } } t
    (s.mdu.motor = .run → s.mdu.sCur ≤ s.mdu.sTgt → ∃ t, exec (.setpointStepExpiry dt) s = .next t ∧
      State.EndsAs { u with mdu := { u.mdu with
        sCur := min s.mdu.sTgt (s.mdu.sCur + 200), setpointTimer := some u.clock } } t) ∧
    (s.mdu.motor = .run → s.mdu.sTgt < s.mdu.sCur → ∃ t, exec (.setpointStepExpiry dt) s = .next t ∧
      State.EndsAs { u with mdu := { u.mdu with
        sCur := max s.mdu.sTgt (s.mdu.sCur - 400), setpointTimer := some u.clock } } t) ∧
    (s.mdu.motor.driven = true → s.hb.iMot < i → sampled (d - 1)) ∧
    (s.mdu.motor = .align → i ≤ s.hb.iMot → sampled (min 1000 (d + 1))) ∧
    (s.mdu.motor = .ramp → i ≤ s.hb.iMot → d < goal → sampled (d + 1)) ∧
    (s.mdu.motor = .ramp → i ≤ s.hb.iMot → goal < d → sampled (d - 1)) ∧
    (s.mdu.motor = .ramp → i ≤ s.hb.iMot → d = goal → sampled d) ∧
    (s.mdu.motor = .run → i ≤ s.hb.iMot → sampled d) ∧
    (s.mdu.motor.driven = false → sampled d) ∧
    (s.mdu.motor = .ramp → ∃ t, exec (.rampCommutation dt) s = .next t ∧
      State.EndsAs { u with mdu := { u.mdu with lastCommutation := some u.clock } } t)) ∧
  (∀ (dt : Nat) (s : State), s.Runs .handle →
    let u := s.advance dt
    let latched := fun (l : List Record) => l.map fun x =>
      if x.code = .motorOvercurrent ∨ x.code = .startFail then { x with phase := .latched } else x
    let off : State := { u with mdu := { u.mdu with bridgeOff := true }, cdu := latched s.cdu }
    (s.mdu.motor.driven = true → s.has .motorOvercurrent = false →
      ∃ t, exec (.motorOvercurrentTrip dt) s = .next t ∧
        State.EndsAs ((u.raiseRec .motorOvercurrent).setMotor (.coast .stop)) t) ∧
    (∀ a, a ≠ .hold → s.mdu.motor = .coast a → s.has .lockLost = false →
      ∃ t, exec (.bridgeOffConfirmation dt) s = .next t ∧ off.EndsAs t) ∧
    (s.mdu.motor = .coast .hold → s.has .lockLost = false →
      ∃ t, exec (.bridgeOffConfirmation dt) s = .next t ∧ (off.setMotor .held).EndsAs t) ∧
    (s.mdu.motor = .stopped → s.has .lockLost = false →
      ∃ t, exec (.bridgeOffConfirmation dt) s = .next t ∧ off.EndsAs t) ∧
    (s.mdu.motor = .stopped → u.mdu.speed < 12000 → ∃ t, exec (.bridgeOffConfirmation dt) s = .next t ∧
      t.has .lockLost = false) ∧
    (s.mdu.motor.driven = true ∨ s.mdu.motor = .held → ∃ t, exec (.bridgeOffConfirmation dt) s = .next t ∧
      u.EndsAs t) ∧
    (s.mdu.motor = .coast .hold → u.mdu.speed < 12000 → ∃ t, exec (.bridgeOffConfirmation dt) s = .next t ∧
      t.has .lockLost = false))

/-- R52: the exclusion band. The target is the raw speed placed outside the band: below when the raw speed is nearer to
the base, above otherwise, between 9,900 and 120,000 rpm. The setpoint's steps and the power limiter do not see it. The raw speed of each mode is
R51's. -/
def Obligations.SpeedTargetOutsideBand : Prop :=
  (∀ s : State, s.targetSpeed = placeSpeed s.settings.handle.bandBase s.settings.handle.bandLimit s.rawSpeed) ∧
  (∀ s : State, let h := s.settings.handle
    (s.mdu.mode = .eco → s.rawSpeed = min 120000 (h.ecoSpeed * 100)) ∧
    (s.mdu.mode = .auto → s.rawSpeed = min 120000 ((h.autoSpeedBase + h.autoSpeedStep * s.dsu.boost) * 100)) ∧
    (s.mdu.mode = .boost → s.rawSpeed = min 120000 (h.boostSpeed * 100))) ∧
  (∀ (base limit raw : Nat),
    (limit < base → placeSpeed base limit raw = raw) ∧
    (base ≤ limit → raw < base * 100 ∨ limit * 100 < raw → placeSpeed base limit raw = raw) ∧
    (base ≤ limit → base * 100 ≤ raw → raw ≤ limit * 100 → raw - base * 100 < limit * 100 - raw →
      placeSpeed base limit raw = base * 100 - 100) ∧
    (base ≤ limit → base * 100 ≤ raw → raw ≤ limit * 100 → limit * 100 - raw ≤ raw - base * 100 →
      placeSpeed base limit raw = limit * 100 + 100) ∧
    (100 ≤ base → base ≤ 1199 → 100 ≤ limit → limit ≤ 1199 → base ≤ limit → base * 100 ≤ raw → raw ≤ limit * 100 →
      9900 ≤ placeSpeed base limit raw ∧ placeSpeed base limit raw ≤ 120000 ∧
        ¬ (base * 100 ≤ placeSpeed base limit raw ∧ placeSpeed base limit raw ≤ limit * 100))) ∧
  ∀ (dt i base limit : Nat) (s : State), s.Runs .handle →
    let b : State := { s with settings.handle.bandBase := base, settings.handle.bandLimit := limit }
    (∃ t v, exec (.setpointStepExpiry dt) s = .next t ∧ exec (.setpointStepExpiry dt) b = .next v ∧ v.mdu = t.mdu) ∧
    (∃ t v, exec (.busCurrentSample dt i) s = .next t ∧ exec (.busCurrentSample dt i) b = .next v ∧ v.mdu = t.mdu)

/-- R65, R80, R81, R51, R31: a mode press at an awake HANDLE: the click, the next mode, B at 0 on leaving and on entering
AUTO, and the target and the mode cap of the new mode.
R66 to R68: the four events of the head output.
R71: the piezo comparator and its dead time. A rising crossing with the dead time stopped is counted and starts it;
one within it is not counted and does not restart it; the fall of the comparator clears the pinned watch. -/
def Obligations.ModePressHeadAndPiezo : Prop :=
  (∀ (dt : Nat) (s : State), s.Ready .handle →
    ∃ t, exec (.modePress dt) s = .next t ∧
      (s.mdu.mode = .eco → t.mdu.mode = .auto) ∧ (s.mdu.mode = .auto → t.mdu.mode = .boost) ∧
      (s.mdu.mode = .boost → t.mdu.mode = .eco) ∧
      (s.mdu.mode ≠ .boost → t.dsu.boost = 0 ∧ t.dsu.decay = 0) ∧
      t.mdu.sTgt = t.targetSpeed ∧ t.hb.pMode = t.modePower ∧
      (s.tiu.level = 0 → s.settings.handle.vFloor ≤ s.hb.vbus → s.has .busLow = false →
        t.tiu.click = some (s.clock + dt)) ∧
      t.mdu = { (s.advance dt).mdu with mode := t.mdu.mode, sTgt := t.mdu.sTgt } ∧ t.pv = s.pv ∧ t.head = s.head ∧
      t.dsu.ring = s.dsu.ring ∧ t.dsu.level = s.dsu.level) ∧
  (∀ (dt i : Nat) (present : Bool) (s : State), s.Runs .handle →
    let u := s.advance dt
    let past := s.head.jamHistory.filter (fun x => decide (u.clock - x ≤ 30000000))
    let jammed : Head := { s.head with jamTimer := none, jamHistory := past ++ [u.clock] }
    (s.head.output = .off → ∃ t, exec (.headPresentChange dt present) s = .next t ∧ State.EndsAs { u with
      head := { s.head with
        present := present
        output := if s.mdu.motor = Motor.run ∧ present = true then HeadOutput.on else HeadOutput.off } } t) ∧
    (s.head.output = .on → present = false → ∃ t, exec (.headPresentChange dt present) s = .next t ∧
      State.EndsAs { u with head := { s.head with present := false, output := .off, jamTimer := none } } t) ∧
    (s.head.output = .jamOff ∨ s.head.output = .lockedOff →
      ∃ t, exec (.headPresentChange dt present) s = .next t ∧
        State.EndsAs { u with head := { s.head with present := present } } t) ∧
    (s.head.output = .on → ∃ t, exec (.headCurrentSample dt i) s = .next t ∧ State.EndsAs { u with
      head := { s.head with
        current := i
        jamTimer := if s.settings.handle.jamThreshold < i then some (s.head.jamTimer.getD u.clock) else none } } t) ∧
    (s.head.output ≠ .on → ∃ t, exec (.headCurrentSample dt i) s = .next t ∧
      State.EndsAs { u with head := { s.head with current := i } } t) ∧
    (s.head.output = .on → s.head.jamTimer.isSome → past.length < 2 → ∃ t, exec (.jamDetected dt) s = .next t ∧
      State.EndsAs { u with head := { jammed with output := .jamOff, jamOffTimer := some u.clock } } t) ∧
    (s.head.output = .on → s.head.jamTimer.isSome → 2 ≤ past.length → ∃ t, exec (.jamDetected dt) s = .next t ∧
      State.EndsAs (State.raiseRec .brushJam { u with head := { jammed with output := .lockedOff } }) t) ∧
    (s.head.output = .jamOff → ∃ t, exec (.jamOffTimerExpiry dt) s = .next t ∧ State.EndsAs { u with
      head := { s.head with
        jamOffTimer := none
        output := if s.mdu.motor = Motor.run ∧ s.head.present = true then HeadOutput.on else HeadOutput.off } } t)) ∧
  (∀ (dt : Nat) (s : State), s.Runs .handle →
    let u := s.advance dt
    (s.dsu.windowTimer.isSome → s.dsu.deadTime = none → ∃ t, exec (.risingCrossing dt) s = .next t ∧
      State.EndsAs { u with
        dsu := { s.dsu with above := true, count := min 255 (s.dsu.count + 1), deadTime := some u.clock } } t) ∧
    (s.dsu.deadTime.isSome → ∃ t, exec (.risingCrossing dt) s = .next t ∧
      State.EndsAs { u with dsu := { s.dsu with above := true } } t) ∧
    (∃ t, exec (.deadTimeExpiry dt) s = .next t ∧ State.EndsAs { u with dsu := { s.dsu with deadTime := none } } t) ∧
    (∃ t, exec (.comparatorFall dt) s = .next t ∧
      State.EndsAs { u with dsu := { s.dsu with above := false, pinned := false } } t))

/-! ### Dirt sensing -/

/-- R70 to R79, R81 to R83, R85: a window expiry with DIRT_SENSOR_FAULT absent and neither watch at its limit: the tally,
the ring and the score, the level by the thresholds and the hysteresis, the envelope's jump or decay, the two watches,
and the next window with its disturbed mark: set unless the motor is in RUN at its target, which a change of B moves (R74).
That the opening test is made on the target before that change, so that a window found slewing stays marked, is the
model's choice (log 7).
R31, R51, R81: a change of B is a computation of the grant and forms the speed target again; without one both stay.
R84: with DIRT_SENSOR_FAULT present the windows, the ring and the score go on; the level stands, B is 0 and neither watch
counts. -/
def Obligations.WindowExpiry : Prop :=
  ∀ (dt : Nat) (s : State), s.Runs .handle → s.dsu.windowTimer.isSome →
    let u := s.advance dt
    let fault := s.has .dirtSensorFault = true
    let h := s.settings.handle
    let n := if s.dsu.pinned then 255 else s.dsu.count
    let settled := s.dsu.disturbed = false ∧ u.mdu.speed ≤ s.dsu.startSpeed + 2000 ∧
      s.dsu.startSpeed ≤ u.mdu.speed + 2000
    let ring := (n :: s.dsu.ring).take 16
    let score := 2 * (ring.take 4).sum + ((ring.drop 4).take 12).sum
    let up := h.thresholds.countP (fun x => decide (x ≤ score))
    let down := h.thresholds.countP (fun x => decide (x ≤ score + h.hysteresis))
    let level := if s.dsu.level < up then up else if down < s.dsu.level then down else s.dsu.level
    let quiet := if n = 0 ∧ 50000 < u.mdu.speed then min 2400 (s.dsu.quiet + 1) else 0
    let pinned := if n = 255 then min 20 (s.dsu.pinnedCount + 1) else 0
    let opened := fun t : State => t.dsu.windowTimer = some u.clock ∧ t.dsu.count = 0 ∧
      t.dsu.startSpeed = u.mdu.speed ∧ t.dsu.pinned = s.dsu.above ∧
      t.dsu.threshold = min 1023 (h.t0 + h.tk * (u.mdu.speed / 1000) / 16) ∧
      (s.mdu.motor ≠ .run ∨ s.mdu.sCur ≠ s.mdu.sTgt → t.dsu.disturbed = true) ∧
      (s.mdu.motor = .run → s.mdu.sCur = s.mdu.sTgt → t.dsu.disturbed = decide (t.mdu.sTgt ≠ s.mdu.sCur)) ∧
      t.dsu.tally = min 4294967295 (s.dsu.tally + n) ∧
      (t.dsu.boost = s.dsu.boost → t.hb = u.hb ∧ t.mdu = u.mdu) ∧
      (t.dsu.boost ≠ s.dsu.boost →
        let v : State := { u with dsu := { u.dsu with boost := t.dsu.boost } }
        t.hb = (v.computeGrant false).hb ∧ t.mdu = { u.mdu with sTgt := v.targetSpeed })
    (¬ fault → settled → quiet < 2400 → pinned < 20 → ∃ t, exec (.windowExpiry dt) s = .next t ∧ opened t ∧
      t.dsu.ring = ring ∧ t.dsu.score = score ∧ t.dsu.level = level ∧ t.dsu.unsettled = 0 ∧ t.dsu.quiet = quiet ∧
      t.dsu.pinnedCount = pinned ∧
      (s.mdu.mode = .auto → s.dsu.boost < level → t.dsu.boost = level ∧ t.dsu.decay = 0) ∧
      (s.mdu.mode = .auto → level ≤ s.dsu.boost → s.dsu.decay + 1 < (if h.decayLong then 10 else 5) →
        t.dsu.boost = s.dsu.boost ∧ t.dsu.decay = s.dsu.decay + 1) ∧
      (s.mdu.mode = .auto → level ≤ s.dsu.boost → (if h.decayLong then 10 else 5) ≤ s.dsu.decay + 1 →
        t.dsu.boost = (if level < s.dsu.boost then s.dsu.boost - 1 else s.dsu.boost) ∧ t.dsu.decay = 0) ∧
      (s.mdu.mode ≠ .auto → t.dsu.boost = 0 ∧ t.dsu.decay = 0) ∧
      t.mdu.motor = s.mdu.motor ∧ t.pv = s.pv) ∧
    (¬ fault → settled → quiet = 2400 ∨ pinned = 20 → ∃ t, exec (.windowExpiry dt) s = .next t ∧ opened t ∧
      hasActive t.cdu .dirtSensorFault = true ∧ t.dsu.level = 0 ∧ t.dsu.boost = 0 ∧ t.dsu.score = score) ∧
    (¬ fault → ¬ settled → s.dsu.unsettled < 9 → ∃ t, exec (.windowExpiry dt) s = .next t ∧ opened t ∧
      t.dsu.ring = s.dsu.ring ∧ t.dsu.score = s.dsu.score ∧ t.dsu.level = s.dsu.level ∧
      t.dsu.unsettled = s.dsu.unsettled + 1 ∧ t.dsu.quiet = s.dsu.quiet ∧ t.dsu.pinnedCount = s.dsu.pinnedCount) ∧
    (¬ settled → 9 ≤ s.dsu.unsettled → ∃ t, exec (.windowExpiry dt) s = .next t ∧ opened t ∧ t.dsu.ring = [] ∧
      t.dsu.score = 0 ∧ t.dsu.level = 0 ∧ t.dsu.unsettled = 10) ∧
    (fault → ∃ t, exec (.windowExpiry dt) s = .next t ∧ opened t ∧ t.has .dirtSensorFault = true ∧
      t.dsu.boost = 0 ∧ t.dsu.decay = 0 ∧ t.dsu.quiet = s.dsu.quiet ∧ t.dsu.pinnedCount = s.dsu.pinnedCount ∧
      (settled → t.dsu.ring = ring ∧ t.dsu.score = score ∧ t.dsu.unsettled = 0 ∧ t.dsu.level = s.dsu.level) ∧
      (¬ settled → s.dsu.unsettled < 9 → t.dsu.ring = s.dsu.ring ∧ t.dsu.score = s.dsu.score ∧
        t.dsu.level = s.dsu.level ∧ t.dsu.unsettled = s.dsu.unsettled + 1))

/-! ### Cells, switches, gauge and path -/

/-- R89, R112, R157: the sweep timer begins a sweep; the gauge button shows the state of charge for 3 s, with a click,
and blinks while the discharge switch is not ON, beginning with its on phase (the model's reading, log 22).
R117: the grace timer's expiry. With the DOCK entry still ABSENT the field leaves ACCEPT and the charge switch opens;
with an entry present nothing is left. -/
def Obligations.PackTimersAndGaugeButton : Prop :=
  (∀ (dt : Nat) (s : State), s.Ready .pack →
    let u := s.advance dt
    let lit := min 4 (s.gauge.soc / 50 + 1)
    (s.cmu.sweepTimer.isSome → ∃ t, exec (.sweepTimerExpiry dt) s = .next t ∧
      State.EndsAs { u with cmu.sweepTimer := some u.clock, cmu.sweeping := true } t) ∧
    (∃ t, exec (.gaugePress dt) s = .next t ∧ State.EndsAs { u with
        tiu.click := if s.tiu.level = 0 then some u.clock else s.tiu.click, tiu.displayTimer := some u.clock } t ∧
      t.tiu.gauge.lit = lit ∧ t.tiu.gauge.blinking = (s.cmu.dsw != .on) ∧
      (s.tiu.gauge.blinking = false → t.tiu.gauge.phaseOn = (s.cmu.dsw != .on))) ∧
    (∃ t, exec (.gaugeDisplayExpiry dt) s = .next t ∧ State.EndsAs { u with tiu.displayTimer := none } t ∧
      t.tiu.gauge.lit = 0) ∧
    (s.tiu.displayTimer.isSome → s.cmu.dsw ≠ .on → s.tiu.gauge.blinking = true →
      ∃ t, exec (.gaugeBlinkStep dt) s = .next t ∧ u.EndsAs t ∧ t.tiu.gauge = ⟨lit, true, !s.tiu.gauge.phaseOn⟩)) ∧
  (∀ (dt : Nat) (s : State), s.Ready .pack → s.path.graceTimer.isSome →
    (s.pv.dock.state = .absent → s.path.field = .accept → ∃ t, exec (.graceTimerExpiry dt) s = .next t ∧
      t.path.field = .none ∧ t.path.graceTimer = none ∧ t.path.notedRun = none ∧ t.cmu.csw = false ∧
      t.liu.tx.state.isSome = true) ∧
    (s.pv.dock.state ≠ .absent → ∃ t, exec (.graceTimerExpiry dt) s = .next t ∧
      State.EndsAs { s.advance dt with path.graceTimer := none } t))

/-- R89, R90, R92: what every sweep completion reads and revises: the cell records with the time bled, taken in whole
milliseconds (log 38), the highest and lowest voltage since the last FULL, V_min and V_max, and the balance set: empty while
more than 500 mA is drawn; else the members more than half the threshold above V_min stay, and the free places go to the
highest eligible cells, the lower index first, until the set has three or no cell is left. -/
def Obligations.SweepCompletionReadings : Prop :=
  ∀ (dt : Nat) (v : List Nat) (s : State), s.Ready .pack → s.cmu.sweeping = true → v ≠ [] →
    v.length = s.settings.pack.cellCount → s.cmu.cells.length = s.settings.pack.cellCount →
    s.cmu.balance.length ≤ 3 →
    let now := s.clock + dt
    let threshold := s.settings.pack.balanceThreshold
    let volts := fun i : Nat => v.getD (i - 1) 0
    let elapsed := match s.cmu.lastSweep with
      | none => 0
      | some m => (now - m) / 1000
    ∃ t, exec (.sweepCompletion dt v) s = .next t ∧ t.cmu.swept = true ∧ t.cmu.sweeping = false ∧
      t.cmu.lastSweep = some now ∧ t.cmu.cells.map (·.voltage) = v ∧
      t.cmu.vmin ∈ v ∧ (∀ x ∈ v, t.cmu.vmin ≤ x) ∧ t.cmu.vmax ∈ v ∧ (∀ x ∈ v, x ≤ t.cmu.vmax) ∧
      (∀ (i : Nat) (c d : CellRecord), s.cmu.cells[i]? = some c → t.cmu.cells[i]? = some d →
        let ms := c.bleedMillis + if i + 1 ∈ s.cmu.balance then elapsed else 0
        d.bleedSeconds = min 65535 (c.bleedSeconds + ms / 1000) ∧ d.bleedMillis = ms % 1000 ∧
        (s.path.field ≠ .accept →
          d.highest = some (max d.voltage (c.highest.getD d.voltage)) ∧
          d.lowest = some (min d.voltage (c.lowest.getD d.voltage)))) ∧
      t.cmu.balance.length ≤ 3 ∧ (500 < s.cmu.current → t.cmu.balance = []) ∧
      (s.cmu.current ≤ 500 →
        let kept := s.cmu.balance.filter (fun i => decide (t.cmu.vmin + threshold / 2 < volts i))
        let joins := fun i : Nat => 1 ≤ i ∧ i ≤ v.length ∧ i ∉ kept ∧ t.cmu.vmin + threshold ≤ volts i ∧ 3900 ≤ volts i
        let before := fun i j : Nat => volts j < volts i ∨ (volts i = volts j ∧ i < j)
        ∃ joined : List Nat, t.cmu.balance = kept ++ joined ∧ (∀ i ∈ joined, joins i) ∧ joined.Pairwise before ∧
          ∀ i, joins i → i ∉ joined → t.cmu.balance.length = 3 ∧ ∀ j ∈ joined, before j i) ∧
      t.pb.fV = voltageFactor t.cmu.vmin s.settings.pack.cellMin s.settings.pack.vSoft

/-- R26, R93, R100, R101, R105: the conditions that a sweep completion raises and ends. CELL_LOW is ACTIVE at a cell at the
minimum; with a voltage factor above 0 it becomes LATCHED, and goes while charging in ACCEPT with every cell more than 200 mV
above the minimum, which turns the discharge switch ON where nothing else holds it.
CELL_HIGH comes with the third
completion in a row at the cell maximum + 50 mV, becomes LATCHED below that, and goes below the cell maximum - 100 mV.
CELL_IMBALANCE comes after 60 s of more than 150 mV between the cells, and goes at 100 mV or less. -/
def Obligations.SweepCompletionConditions : Prop :=
  ∀ (dt : Nat) (v : List Nat) (s : State), s.Ready .pack → s.cmu.sweeping = true →
    v.length = s.settings.pack.cellCount → s.ChargeSafe → s.DischargeSafe →
    let p := s.settings.pack
    let now := s.clock + dt
    let wide := fun d : Nat => ∃ x ∈ v, ∃ y ∈ v, y + d < x
    ∃ t, exec (.sweepCompletion dt v) s = .next t ∧
      ((∃ x ∈ v, x ≤ p.cellMin) → hasActive t.cdu .cellLow = true ∧ t.cmu.dsw ≠ .on) ∧
      (∀ m, m ∈ v → (∀ x ∈ v, m ≤ x) → 0 < voltageFactor m p.cellMin p.vSoft →
        hasActive t.cdu .cellLow = false ∧
        (s.path.field ≠ .accept ∨ (-s.cmu.current).toNat < 100 ∨ m ≤ p.cellMin + 200 →
          t.has .cellLow = s.has .cellLow) ∧
        (s.path.field = .accept → 100 ≤ (-s.cmu.current).toNat → p.cellMin + 200 < m →
          (∀ x ∈ v, x < p.cellMax + 50) → s.chargeHeld = false → s.cmu.csw = true → s.path.fullTimer = none →
          t.has .cellLow = false ∧ (∀ n k ph, s.cdu = [⟨.cellLow, n, k, ph⟩] → t.cmu.dsw = .on))) ∧
      ((∃ x ∈ v, x < p.vSoft) → t.has .cellLowWarn = true) ∧
      ((∀ x ∈ v, p.vSoft + 50 ≤ x) → v ≠ [] → t.has .cellLowWarn = false) ∧
      ((∃ x ∈ v, p.cellMax + 50 ≤ x) → 2 ≤ s.cmu.highCount → s.cmu.highCount ≤ 3 →
        hasActive t.cdu .cellHigh = true ∧ t.cmu.highCount = 3 ∧ t.cmu.csw = false) ∧
      ((∃ x ∈ v, p.cellMax + 50 ≤ x) → s.cmu.highCount < 2 → t.cmu.highCount = s.cmu.highCount + 1 ∧
        t.has .cellHigh = s.has .cellHigh) ∧
      ((∀ x ∈ v, x < p.cellMax + 50) → v ≠ [] → t.cmu.highCount = 0 ∧ hasActive t.cdu .cellHigh = false) ∧
      ((∀ x ∈ v, x + 100 < p.cellMax) → v ≠ [] → t.has .cellHigh = false) ∧
      ((∃ x ∈ v, p.cellMax ≤ x + 100) → (∀ x ∈ v, x < p.cellMax + 50) → t.has .cellHigh = s.has .cellHigh) ∧
      ((∀ x ∈ v, ∀ y ∈ v, x ≤ y + 100) → t.has .cellImbalance = false) ∧
      (s.has .cellImbalance = true → wide 100 → t.has .cellImbalance = true) ∧
      (s.has .cellImbalance = false → wide 150 → s.cmu.imbalanceTimer = none →
        t.has .cellImbalance = false ∧ t.cmu.imbalanceTimer = some now) ∧
      (∀ m, s.has .cellImbalance = false → wide 150 → s.cmu.imbalanceTimer = some m → now - m < 60000000 →
        t.has .cellImbalance = false ∧ t.cmu.imbalanceTimer = some m) ∧
      (∀ m, s.has .cellImbalance = false → wide 150 → s.cmu.imbalanceTimer = some m → 60000000 ≤ now - m →
        hasActive t.cdu .cellImbalance = true ∧ t.cmu.imbalanceTimer = none) ∧
      (s.has .cellImbalance = false → ¬ wide 150 → t.has .cellImbalance = false ∧ t.cmu.imbalanceTimer = none)

/-- R109, R118: the FULL decision at a sweep completion, 30 s after its conditions began to hold, with nothing else due
at that completion and charge allowed (R29): the path field becomes FULL, the charge switch opens, and the gauge takes the
anchor. That it is FULL with the DOCK entry STALE too, where a resting choice at the change of the FULL flag would give NONE,
is the model's choice (log 39).
R109, R110: the empty anchor, at a completion that raises CELL_LOW_WARN with warn armed set and ACCEPT not shown: with
learn armed the capacity is learned first, within a tenth of the old one and then within one half and eleven tenths of the
rated one, with the next revision and its profile requested, and the health follows; Q_rem falls to the reserve, and the
fraction to 0, where it stood above it. -/
def Obligations.FullDecisionAndEmptyAnchor : Prop :=
  (∀ (dt m : Nat) (v : List Nat) (d : DockStatus) (s : State), s.Ready .pack → s.cmu.sweeping = true → s.cdu = [] →
    v.length = s.settings.pack.cellCount → v ≠ [] → s.cmu.csw = true → s.path.field = .accept →
    s.pv.dock.stored = some d → d.run = 3 → d.conv = 2 → (-s.cmu.current).toNat < s.settings.pack.iTerm →
    (∃ x ∈ v, s.settings.pack.cellMax ≤ x + 20) → (∀ x ∈ v, x < s.settings.pack.cellMax + 50) →
    (∀ x ∈ v, s.settings.pack.vSoft ≤ x) → s.path.fullTimer = some m → 30000000 ≤ s.clock + dt - m →
    0 < s.settings.pack.maxCharge * chargeFactor s.pb.temp s.settings.pack.tChgLow s.settings.pack.tChgHigh / 256 →
    ∃ t, exec (.sweepCompletion dt v) s = .next t ∧ t.path.field = .full ∧ t.cmu.csw = false ∧
      t.path.fullFlag = true ∧ t.path.notedRun = none ∧ t.path.fullTimer = none ∧
      t.gauge = { s.gauge with qRem := s.gauge.full, frac := 0, dFull := 0, learnArmed := true } ∧
      t.liu.tx.state.isSome = true ∧ ∀ c ∈ t.cmu.cells, c.highest = some c.voltage ∧ c.lowest = some c.voltage) ∧
  (∀ (dt : Nat) (v : List Nat) (s : State), s.Ready .pack → s.cmu.sweeping = true → s.cdu = [] →
    v.length = s.settings.pack.cellCount → s.path.field ≠ .accept → s.gauge.warnArmed = true →
    (∃ x ∈ v, x < s.settings.pack.vSoft) → (∀ x ∈ v, x < s.settings.pack.cellMax + 50) →
    let g := s.gauge
    let p := s.settings.pack
    let learned := max (p.rated / 2) (min (p.rated * 11 / 10)
      (max (g.full - g.full / 10) (min (g.full + g.full / 10) (g.dFull + p.reserve))))
    let anchored : Gauge := { g with
      warnArmed := false, qRem := min g.qRem p.reserve, frac := if g.qRem ≤ p.reserve then g.frac else 0 }
    ∃ t, exec (.sweepCompletion dt v) s = .next t ∧ hasActive t.cdu .cellLowWarn = true ∧
      (g.learnArmed = false → t.gauge = anchored) ∧
      (g.learnArmed = true → t.liu.tx.profile.isSome = true ∧ t.gauge = { anchored with
        full := learned, revision := g.revision + 1, learnArmed := false
        health := min 100 (100 * learned / p.rated) }))

/-- R91, R102, R108, R111, R113, R114, R179: a pack current sample with SHORT absent, of a PACK awake or in doze (R113: the
gauge counts on there): the charge counted in the fraction, one mAh down or up where it runs over, the cycle count, the overdraw timer in ON, and the wake of 200 mA. A sample of any size
counts at most one mAh: the model's choice (log 26). -/
def Obligations.CurrentSample : Prop :=
  ∀ (dt : Nat) (i : Int) (s : State), s.Runs .pack → s.has .short = false →
    let u := s.advance dt
    let f := s.gauge.frac - i
    let timer := if s.cmu.dsw = .on then
        (if s.pb.iDis * 125 + 1000 < i.toNat then some (s.cmu.overdrawTimer.getD u.clock) else none)
      else s.cmu.overdrawTimer
    (0 ≤ f → f < 3600000 → s.ssc.doze = .awake ∨ i.natAbs < 200 → ∃ t, exec (.currentSample dt i) s = .next t ∧
      State.EndsAs { u with
        cmu.current := i, cmu.currentAt := u.clock, cmu.overdrawTimer := timer, gauge.frac := f } t) ∧
    (f < 0 → ∃ t, exec (.currentSample dt i) s = .next t ∧ t.cmu.current = i ∧ t.gauge.qRem = s.gauge.qRem - 1 ∧
      t.gauge.frac = (if s.gauge.qRem = 0 then 0 else f + 3600000) ∧
      t.gauge.dFull = min 65535 (s.gauge.dFull + 1) ∧
      (min 65535 (s.gauge.dCyc + 1) < s.gauge.full → t.gauge.dCyc = min 65535 (s.gauge.dCyc + 1) ∧
        t.gauge.cycles = s.gauge.cycles ∧ t.gauge.revision = s.gauge.revision) ∧
      (s.gauge.full ≤ min 65535 (s.gauge.dCyc + 1) → t.gauge.dCyc = 0 ∧
        t.gauge.cycles = min 65535 (s.gauge.cycles + 1) ∧ t.gauge.revision = s.gauge.revision + 1)) ∧
    (3600000 ≤ f → ∃ t, exec (.currentSample dt i) s = .next t ∧ t.cmu.current = i ∧
      t.gauge = { s.gauge with
        qRem := min 65535 (s.gauge.qRem + 1), frac := f - 3600000, learnArmed := false, warnArmed := true } ∧
      t.path.received = s.path.received + 1) ∧
    (s.ssc.doze ≠ .awake → 200 ≤ i.natAbs → ∃ t, exec (.currentSample dt i) s = .next t ∧ t.ssc.doze = .awake ∧
      t.pv.publishTimer = some u.clock)

/-- R94 to R97, R101 to R103: the discharge switch at the overdraw timer, the short comparator, the shed timer, also where
CELL_LOW made the cut unless that event releases it, and the recovery timer. -/
def Obligations.DischargeSwitchEvents : Prop :=
  ∀ (dt : Nat) (s : State), s.Ready .pack →
    let u := s.advance dt
    let releases := s.path.field = .accept ∧ 100 ≤ (-s.cmu.current).toNat ∧
      s.settings.pack.cellMin + 200 < s.cmu.vmin
    (s.cmu.dsw = .on → s.cmu.overdrawTimer.isSome → s.cdu = [] → ∃ t, exec (.overdrawTimerExpiry dt) s = .next t ∧
      hasActive t.cdu .overdraw = true ∧ t.cmu.dsw = .cutPending ∧ t.cmu.shedTimer = some u.clock ∧
      t.cmu.overdrawTimer = none ∧ t.liu.tx.state.isSome = true) ∧
    (s.cmu.dsw ≠ .off → ∃ t, exec (.shortTrip dt) s = .next t ∧ hasActive t.cdu .short = true ∧ t.cmu.dsw = .off ∧
      t.cmu.shedTimer = none ∧ t.cmu.overdrawTimer = none ∧ t.liu.tx.state.isSome = true) ∧
    (s.cmu.dsw = .cutPending → s.cmu.swept = false → ∃ t, exec (.shedTimerExpiry dt) s = .next t ∧
      State.EndsAs (State.requestState true { u with
        cmu.dsw := .off, cmu.shedTimer := none, cmu.overdrawTimer := none
        cmu.recoveryTimer := if s.has .overdraw then some u.clock else s.cmu.recoveryTimer }) t) ∧
    (s.cmu.dsw = .cutPending → s.has .cellLow = false ∨ ¬ releases → ∃ t, exec (.shedTimerExpiry dt) s = .next t ∧
      t.cmu.dsw = .off ∧ t.cmu.shedTimer = none ∧ (s.has .cellLow = true → t.has .cellLow = true)) ∧
    (s.cmu.recoveryTimer.isSome → ∃ t, exec (.overdrawRecoveryExpiry dt) s = .next t ∧ t.has .overdraw = false) ∧
    (∀ n k, s.cmu.recoveryTimer.isSome → s.cdu = [⟨.overdraw, n, k, .active⟩] → s.cmu.dsw = .off →
      (s.cmu.swept = true → 0 < voltageFactor s.cmu.vmin s.settings.pack.cellMin s.settings.pack.vSoft) →
      ∃ t, exec (.overdrawRecoveryExpiry dt) s = .next t ∧ t.has .overdraw = false ∧ t.cmu.dsw = .on ∧
        t.cmu.recoveryTimer = none ∧ t.liu.tx.state.isSome = true ∧ (s.cmu.swept = false → t.cdu = []))

/-- R106: CHARGE_OVERRUN. At a sweep completion, charge current of 100 mA or more through a switch open for at least 10 ms
before the latest sample raises it, and a charge current below 100 mA makes it LATCHED. A dock status of the noted run in
ACTIVE or SUSPENDED that shows an excess of 21 to 32767 raises it and opens the charge switch; another excess or another
run does not. It is released when the DOCK entry becomes ABSENT, where an ACTIVE one stays.
R103: SHORT becomes LATCHED at the first sample below the threshold, and goes at the change into ACCEPT, which turns the
discharge switch ON where nothing else holds it. -/
def Obligations.ChargeOverrunAndShort : Prop :=
  (∀ (dt : Nat) (v : List Nat) (s : State), s.Ready .pack → s.cmu.sweeping = true →
    let charge := (-s.cmu.current).toNat
    (s.cmu.csw = false → s.path.field ≠ .accept → s.cmu.cswOpenedAt + 10000 ≤ s.cmu.currentAt → 100 ≤ charge →
      ∃ t, exec (.sweepCompletion dt v) s = .next t ∧ hasActive t.cdu .chargeOverrun = true) ∧
    (charge < 100 → ∃ t, exec (.sweepCompletion dt v) s = .next t ∧ hasActive t.cdu .chargeOverrun = false ∧
      t.has .chargeOverrun = s.has .chargeOverrun) ∧
    (s.cmu.csw = false → s.path.field ≠ .accept → s.cmu.currentAt < s.cmu.cswOpenedAt + 10000 → 100 ≤ charge →
      ∃ t, exec (.sweepCompletion dt v) s = .next t ∧
        hasActive t.cdu .chargeOverrun = hasActive s.cdu .chargeOverrun ∧
        t.has .chargeOverrun = s.has .chargeOverrun)) ∧
  (∀ (dt : Nat) (h : Sender) (n : DockStatus) (l : BitVec 4) (s : State), s.Ready .pack → s.has .lineStuck = false →
    s.pv.dock.tag = some h.tag → s.pv.dock.lastSeq = some l → l ≠ h.seq → h.doze = false → s.pv.dock.state = .fresh →
    s.path.field = .accept → s.path.notedRun.isSome → n.run = 3 ∨ n.run = 4 → s.has .chargeOverrun = false →
    let excess := (n.delivered + s.path.baseAllowance - s.path.allowance).toNat
    ∃ t, exec (.dockStatusAccepted dt h n) s = .next t ∧
      (s.path.notedRun = some n.runNumber → 21 ≤ excess → excess ≤ 32767 →
        hasActive t.cdu .chargeOverrun = true ∧ t.cmu.csw = false) ∧
      (s.path.notedRun ≠ some n.runNumber ∨ excess < 21 ∨ 32767 < excess →
        t.cdu = s.cdu ∧ t.path = s.path ∧ t.cmu = s.cmu)) ∧
  (∀ (dt : Nat) (s : State), s.Ready .pack → s.pv.publishTimer.isSome → s.ListOk → 39 ≤ s.pv.dock.age →
    s.pv.dock.state = .fresh ∨ s.pv.dock.state = .stale ∨ s.pv.dock.state = .lost →
    ∃ t, exec (.publishPeriodExpiry dt) s = .next t ∧ t.pv.dock.state = .absent ∧
      (hasLatched s.cdu .chargeOverrun = true → t.has .chargeOverrun = false) ∧
      (hasActive s.cdu .chargeOverrun = true → hasActive t.cdu .chargeOverrun = true)) ∧
  (∀ (dt : Nat) (i : Int) (s : State), s.Ready .pack → i.toNat < s.settings.pack.shortThreshold * 100 →
    ∃ t, exec (.currentSample dt i) s = .next t ∧ hasActive t.cdu .short = false ∧ t.has .short = s.has .short) ∧
  (∀ (dt : Nat) (i : Int) (s : State), s.Ready .pack → s.settings.pack.shortThreshold * 100 ≤ i.toNat →
    ∃ t, exec (.currentSample dt i) s = .next t ∧ hasActive t.cdu .short = hasActive s.cdu .short) ∧
  (∀ (dt : Nat) (h : Sender) (n : DockStatus) (l : BitVec 4) (s : State), s.Ready .pack → s.has .lineStuck = false →
    s.pv.dock.tag = some h.tag → s.pv.dock.lastSeq = some l → l ≠ h.seq → h.doze = false → s.pv.dock.state = .fresh →
    s.path.field = .want → n.run = 2 ∨ n.run = 3 → hasLatched s.cdu .short = true → s.ListOk →
    ∃ t, exec (.dockStatusAccepted dt h n) s = .next t ∧ t.has .short = false ∧
      (∀ k j, s.cdu = [⟨.short, k, j, .latched⟩] →
        (s.cmu.swept = true → 0 < voltageFactor s.cmu.vmin s.settings.pack.cellMin s.settings.pack.vSoft) →
        t.cmu.dsw = .on ∧ (t.cmu.csw = true ↔ t.path.field = .accept) ∧
        (s.cmu.swept = false → t.path.field = .accept ∧ t.cdu = [])))

/-- R115, R165, R179: the resting choice as a table: outside ACCEPT it sets the path field, and a WANT made against a
DOZING dock asks for a wake pulse and wakes a dozing PACK.
R29, R115, R117: the published charge limit that becomes 0 takes the field out of ACCEPT; one that becomes more than 0
makes the choice.
R119: the FULL flag is cleared at a change of the state of charge that leaves it below 190, and the choice is made.
R114, R120: a charge step counts received, and while a run is noted in ACCEPT the grant test follows it: with the grant less
than half a step ahead of what was taken, the allowance goes up by a step. -/
def Obligations.PathFieldAndGrants : Prop :=
  (∀ s : State, let t := s.makeRestingChoice
    (s.path.field = .accept → t = s) ∧
    (s.path.field ≠ .accept → t.path.field =
      if s.pv.dock.state ≠ .fresh ∧ s.pv.dock.state ≠ .dozing then .none
      else if s.pb.chargeLimit = 0 then .refuse
      else if s.path.fullFlag = true ∨ 190 ≤ min 200 (200 * s.gauge.qRem / s.gauge.full) then .full
      else .want) ∧
    (s.path.field ≠ .accept → s.path.field ≠ .want → t.path.field = .want → s.pv.dock.state = .dozing →
      t.liu.wakeRequest = true ∧ (s.ssc.doze ≠ .awake → t.ssc.wakeAsked = true)) ∧
    (s.path.field ≠ t.path.field → s.publishes = true →
      ∃ q, t.liu.tx.state = some q ∧ (q.urgent = true ∨ (q.renewal.any (·.urgent)) = true))) ∧
  (∀ (dt : Nat) (temp : Int) (s : State), s.Ready .pack → s.cmu.swept = true →
    let p := s.settings.pack
    let T := max (-40) (min 125 temp)
    let f := chargeFactor T p.tChgLow p.tChgHigh
    let present := s.pv.dock.state = .fresh ∨ s.pv.dock.state = .dozing
    (s.path.field = .accept → 0 < s.pb.chargeLimit → f = 0 →
      ∃ t, exec (.packTemperatureReading dt temp) s = .next t ∧ t.pb.chargeLimit = 0 ∧ t.cmu.csw = false ∧
        t.path.notedRun = none ∧ (present → t.path.field = .refuse) ∧ (¬ present → t.path.field = .none)) ∧
    (s.path.field = .refuse → s.pb.chargeLimit = 0 → 0 < p.maxCharge * f / 256 → s.chargeHeld = false → T < p.tHot2 →
      present → ∃ t, exec (.packTemperatureReading dt temp) s = .next t ∧ t.pb.chargeLimit = p.maxCharge * f / 256 ∧
        t.path.field =
          if s.path.fullFlag = true ∨ 190 ≤ min 200 (200 * s.gauge.qRem / s.gauge.full) then .full else .want)) ∧
  (∀ (dt : Nat) (i : Int) (s : State), s.Ready .pack →
    let f := s.gauge.frac - i
    let soc := fun q : Nat => min 200 (200 * q / s.gauge.full)
    (f < 0 → s.path.fullFlag = true → 190 ≤ soc s.gauge.qRem → soc (s.gauge.qRem - 1) < 190 →
      ∃ t, exec (.currentSample dt i) s = .next t ∧ t.path.fullFlag = false ∧
        (s.path.field = .accept → t.path.field = .accept) ∧
        (s.path.field ≠ .accept → t.path.field =
          if s.pv.dock.state ≠ .fresh ∧ s.pv.dock.state ≠ .dozing then .none
          else if s.pb.chargeLimit = 0 then .refuse else .want)) ∧
    (f < 0 → 190 ≤ soc (s.gauge.qRem - 1) →
      ∃ t, exec (.currentSample dt i) s = .next t ∧ t.path.fullFlag = s.path.fullFlag) ∧
    (3600000 ≤ f →
      let step := s.settings.pack.grantStep
      let granted := (s.path.allowance - s.path.baseAllowance).toNat
      let taken := (s.path.received + 1 - s.path.baseReceived).toNat
      ∃ t, exec (.currentSample dt i) s = .next t ∧ t.path.received = s.path.received + 1 ∧
        (s.path.field ≠ .accept ∨ s.path.notedRun = none → t.path.allowance = s.path.allowance) ∧
        (s.path.field = .accept → s.path.notedRun.isSome →
          (taken + step / 2 ≤ granted → t.path.allowance = s.path.allowance) ∧
          (granted < taken + step / 2 → taken + step / 2 ≤ granted + step → granted + step < 65536 →
            t.path.allowance = s.path.allowance + BitVec.ofNat 16 step))))

/-! ### The dock -/

/-- R20, R122, R129, R134, R141, R179: the contact sense. A rise in UNDOCKED goes to IDLE and wakes a dozing DOCK with a
wake pulse due; a fall ends a run as UNDOCKED, empties both entries and the slot, and releases the TRIPs.
R127, R129, R133 to R135: the starve timer ends the run as STARVED with its remainder recorded; the recovery timer
clears SUPPLY_WEAK; the dock LED's pattern goes on by the run state. -/
def Obligations.ContactSenseAndDockTimers : Prop :=
  (∀ (dt : Nat) (s : State), s.Runs .dock →
    (s.ccu.run = .undocked → s.pv.pack.state = .absent → ∃ t, exec (.csRise dt) s = .next t ∧ t.ccu.run = .idle ∧
      t.ssc.doze = .awake ∧ t.tiu.dockLedStep = 0 ∧ t.ccu.conv = .off ∧ t.liu.tx.state.isSome = true ∧
      (s.ssc.doze ≠ .awake → t.pv.publishTimer = some (s.clock + dt) ∧ t.liu.wakeRequest = true ∧
        t.db.timer = some (s.clock + dt))) ∧
    (s.ccu.run ≠ .undocked → ∃ t, exec (.csRise dt) s = .next t ∧ (s.advance dt).EndsAs t) ∧
    (s.ccu.run ≠ .undocked → ∃ t, exec (.csFall dt) s = .next t ∧ t.ccu.run = .undocked ∧ t.ccu.conv = .off ∧
      t.db.iSet = 0 ∧ t.ccu.starveTimer = none ∧ t.pv.pack.state = .absent ∧ t.pv.pack.stored = none ∧
      t.pv.handle.state = .absent ∧ t.pv.handle.stored = none ∧ t.pv.slot = none ∧ t.pv.behind = false ∧
      latchedCodes t.cdu = [] ∧ t.has .outputOvervoltage = false ∧
      (s.ccu.run.running = true → t.ccu.history = enterHistory ⟨s.ccu.runNumber, .undocked, s.ccu.delivered, 0,
        s.ccu.startSoc, s.ccu.lastSoc, s.ccu.peak⟩ s.ccu.history) ∧
      ((∀ f, s.liu.line ≠ .sending f) → t.liu.tx.state = none))) ∧
  ∀ (dt : Nat) (s : State), s.Ready .dock →
    let u := s.advance dt
    let places := match s.ccu.run with
      | .offer => 2
      | .suspended => 2
      | .rest => 4
      | _ => 1
    (s.ccu.starveTimer.isSome → s.ccu.run = .active → s.packField ≠ .want →
      ∃ t, exec (.starveTimerExpiry dt) s = .next t ∧ t.ccu.run = .idle ∧ t.ccu.conv = .off ∧
        t.ccu.starveTimer = none ∧ t.liu.tx.state.isSome = true ∧
        t.ccu.history = enterHistory ⟨s.ccu.runNumber, .starved, s.ccu.delivered, s.ccu.credit, s.ccu.startSoc,
          s.ccu.lastSoc, s.ccu.peak⟩ s.ccu.history) ∧
    (s.ccu.weakTimer.isSome → ∃ t, exec (.supplyWeakRecoveryExpiry dt) s = .next t ∧ t.has .supplyWeak = false ∧
      t.ccu.weakTimer = none ∧ t.ccu.weakCount = 0) ∧
    (∃ t, exec (.dockLedStep dt) s = .next t ∧
      State.EndsAs { u with tiu.dockLedStep := (s.tiu.dockLedStep + 1) % places } t)

/-- R126, R127, R131 to R134: an output sample at a docked, awake DOCK. Samples are counted while a run is in progress;
a whole mAh lowers the credit, and credit 0 takes the converter OFF; CC and CV follow the ceiling; an overvoltage ends
the run; the 20th weak sample raises SUPPLY_WEAK. The order within one sample, the count and the peak first, and that a
sample counts at most one mAh are the model's choices (log 24). -/
def Obligations.OutputSample : Prop :=
  ∀ (dt vo io vi : Nat) (s : State), s.Ready .dock → s.ccu.run ≠ .undocked →
    let u := s.advance dt
    let peak := max s.ccu.peak (min 255 (io / 100))
    let high := s.db.vCeil ≤ vo + 50
    let conv : Converter := match s.ccu.conv with
      | .off => .off
      | .cc => if high then .cv else .cc
      | .cv => if s.db.iSet ≤ io ∧ ¬ high then .cc else .cv
    let weak := fun n : Nat => if s.ccu.conv = .off then n else 0
    (s.ccu.run.running = true → s.ccu.frac + io < 3600000 → vo ≤ s.db.vCeil + 500 →
      s.has .outputOvervoltage = false → s.has .supplyWeak = false → s.settings.dock.supplyWeak ≤ vi →
      ∃ t, exec (.outputSample dt vo io vi) s = .next t ∧ State.EndsAs { u with
        ccu := { s.ccu with
          vout := vo, iout := io, vin := vi, frac := s.ccu.frac + io, peak := peak, conv := conv
          weakCount := weak s.ccu.weakCount } } t) ∧
    (s.ccu.run.running = false → s.ccu.conv = .off → s.has .outputOvervoltage = false → s.has .supplyWeak = false →
      ∃ t, exec (.outputSample dt vo io vi) s = .next t ∧
        State.EndsAs { u with ccu := { s.ccu with vout := vo, iout := io, vin := vi } } t) ∧
    (∀ p, s.ccu.run.running = true → 3600000 ≤ s.ccu.frac + io → s.pv.pack.stored = some p →
      let credit := p.allowance - s.ccu.baseline - (s.ccu.delivered + 1)
      credit.toNat < 32768 → ∃ t, exec (.outputSample dt vo io vi) s = .next t ∧
        t.ccu.delivered = s.ccu.delivered + 1 ∧ t.ccu.credit = credit ∧ t.ccu.frac = s.ccu.frac + io - 3600000 ∧
        t.ccu.peak = peak ∧ (credit = 0 → t.ccu.conv = .off ∧ t.db.iSet = 0)) ∧
    (s.ccu.run.running = true → s.ccu.frac + io < 3600000 → s.db.vCeil + 500 < vo → s.ccu.conv ≠ .off →
      s.has .outputOvervoltage = false → ∃ t, exec (.outputSample dt vo io vi) s = .next t ∧
        hasActive t.cdu .outputOvervoltage = true ∧ t.ccu.run = .idle ∧ t.ccu.conv = .off ∧ t.db.iSet = 0 ∧
        t.ccu.history = enterHistory ⟨s.ccu.runNumber, .dockFault, s.ccu.delivered, 0, s.ccu.startSoc, s.ccu.lastSoc,
          peak⟩ s.ccu.history) ∧
    (s.ccu.run = .active → s.ccu.frac + io < 3600000 → vo ≤ s.db.vCeil + 500 → s.ccu.conv ≠ .off →
      s.has .supplyWeak = false → vi < s.settings.dock.supplyWeak → s.ccu.weakCount = 19 →
      ∃ t, exec (.outputSample dt vo io vi) s = .next t ∧ hasActive t.cdu .supplyWeak = true ∧
        t.ccu.weakCount = 20) ∧
    (s.ccu.run.running = false → s.ccu.conv = .off → s.has .supplyWeak = true → s.settings.dock.supplyWeak ≤ vi →
      s.ccu.weakTimer = none → ∃ t, exec (.outputSample dt vo io vi) s = .next t ∧ t.has .supplyWeak = true ∧
        t.ccu.weakTimer = some (s.clock + dt))

/-! ### Tone and indicators -/

/-- R154 to R156: the boundaries of the playing pattern: pulse to gap, the next pulse, the rest, the next repeat, and the
end, at which the choice of R154 is made (its table is in AnnouncementRequest): a pending announcement above the stack's
top starts, a removed stack top is discarded, a suspended announcement begins again, or the unit is silent.
R156, R157, R161: a step of the envelope, the end of a click, and the blink of a HANDLE's gauge LEDs while its PACK
entry is not FRESH. -/
def Obligations.ToneAndBlinkSteps : Prop :=
  (∀ (r : Role) (dt : Nat) (p : Playing) (q : Pattern) (s : State), s.Runs r → s.tiu.playing = some p →
    p.item.pattern = some q →
    let u := s.advance dt
    let now := some u.clock
    let vol := some (if q.envelope then 1 else q.volume)
    let env := if q.envelope then now else none
    let endsNow := p.phase = .gap ∧ q.pulses ≤ p.pulse + 1 ∧ ∃ n, q.repeats = some n ∧ n ≤ p.rep + 1
    let restNow := p.phase = .gap ∧ q.pulses ≤ p.pulse + 1 ∧ ∀ n, q.repeats = some n → p.rep + 1 < n
    let goes := fun x : Tiu => ∃ t, exec (.patternStep dt) s = .next t ∧ State.EndsAs { u with tiu := x } t
    (p.phase = .pulse → goes { s.tiu with
      playing := some { p with phase := .gap }, patternTimer := now, volume := none, envelopeTimer := none }) ∧
    (p.phase = .gap → p.pulse + 1 < q.pulses → goes { s.tiu with
      playing := some { p with pulse := p.pulse + 1, phase := .pulse }, patternTimer := now, volume := vol
      envelopeTimer := env }) ∧
    (restNow → goes { s.tiu with playing := some { p with phase := .rest }, patternTimer := now }) ∧
    (p.phase = .rest → goes { s.tiu with
      playing := some { p with rep := p.rep + 1, pulse := 0, phase := .pulse }, patternTimer := now, volume := vol
      envelopeTimer := env }) ∧
    (endsNow → goes (s.tiu.finish u.clock)) ∧
    (∀ w ws b, endsNow → s.tiu.waiting.filter (fun x => !x.removed) = w :: ws →
      (∀ x, s.tiu.stack.head? = some x → x.level < w.level) → w.item.pattern = some b → goes { s.tiu with
        level := w.level, playing := some ⟨w.item, w.level, 0, 0, .pulse⟩, patternTimer := now, click := none
        volume := some (if b.envelope then 1 else b.volume), envelopeTimer := if b.envelope then now else none
        waiting := ws }) ∧
    (∀ x w rest b, endsNow → s.tiu.stack = x :: w :: rest → x.removed = true → w.removed = false →
      s.tiu.waiting.all (·.removed) = true → w.item.pattern = some b → goes { s.tiu with
        level := w.level, playing := some ⟨w.item, w.level, 0, 0, .pulse⟩, patternTimer := now, click := none
        volume := some (if b.envelope then 1 else b.volume), envelopeTimer := if b.envelope then now else none
        stack := rest, waiting := [] }) ∧
    (endsNow → s.tiu.stack = [] → s.tiu.waiting.all (·.removed) = true → goes { s.tiu with
      level := 0, playing := none, patternTimer := none, volume := none, envelopeTimer := none, waiting := [] }) ∧
    (∀ w rest b, endsNow → s.tiu.stack = w :: rest → w.removed = false → s.tiu.waiting.all (·.removed) = true →
      w.item.pattern = some b → goes { s.tiu with
        level := w.level, playing := some ⟨w.item, w.level, 0, 0, .pulse⟩, patternTimer := now, click := none
        volume := some (if b.envelope then 1 else b.volume), envelopeTimer := if b.envelope then now else none
        stack := rest, waiting := [] })) ∧
  (∀ (r : Role) (dt : Nat) (s : State), s.Runs r →
    let u := s.advance dt
    (∀ v, s.tiu.envelopeTimer.isSome → s.tiu.volume = some v → v < 8 →
      ∃ t, exec (.envelopeStepExpiry dt) s = .next t ∧ State.EndsAs { u with
        tiu.volume := some (v + 1), tiu.envelopeTimer := if v = 7 then none else some u.clock } t) ∧
    (∃ t, exec (.clickTimerExpiry dt) s = .next t ∧ State.EndsAs { u with tiu.click := none } t) ∧
    (∀ p, r = .handle → s.ssc.doze = .awake → s.tiu.level = 0 → s.pv.pack.state = .stale ∨ s.pv.pack.state = .lost →
      s.pv.pack.stored = some p → s.tiu.gauge.blinking = true →
      ∃ t, exec (.handleGaugeBlinkStep dt) s = .next t ∧ u.EndsAs t ∧
        t.tiu.gauge = ⟨min 4 (p.soc.toNat / 50 + 1), true, !s.tiu.gauge.phaseOn⟩))

/-- R156 to R158: the tone pin carries the playing pulse at its frequency and volume, else a click of 3200 Hz at level 2,
else nothing, and nothing while mute is set; the high time of a volume level.
R87, R135, R159, R160: the LED outputs of each role, which mute leaves as they are.
R112, R161: after every command the gauge LEDs of a HANDLE and of a PACK stand as their display says. While ENTERING a
HANDLE's stay off, and they follow at every command: the model's choices (log 43).
R42, R66, R89, R92, R94, R98, R131, R162, R165, R173: the gates and the drive of WL: DSW on in ON and CUT_PENDING, CSW while
closed, a cell's bleed while it is in the balance set and no sweep reads the taps, the bridge in ALIGN, RAMP and RUN, the head
in ON, the converter while not OFF, the own frame or the wake pulse; all off before the end of start-up. -/
def Obligations.OutputsAndIndicators : Prop :=
  (∀ (r : Role) (s : State), s.power = .running → s.role = some r →
    let gauge := fun i : Nat => i < s.tiu.gauge.lit ∧ (s.tiu.gauge.blinking = false ∨ s.tiu.gauge.phaseOn = true)
    let alert := ∃ p, s.tiu.playing = some p ∧ p.phase = .pulse
    (s.settings.common.mute = true → s.tone = none) ∧
    (s.settings.common.mute = false →
      (∀ p q v, s.tiu.playing = some p → p.phase = .pulse → p.item.pattern = some q → s.tiu.volume = some v →
        s.tone = some ⟨q.frequency, v⟩) ∧
      (∀ p, s.tiu.playing = some p → p.phase ≠ .pulse → s.tone = none) ∧
      (s.tiu.playing = none → s.tone = if s.tiu.click.isSome then some ⟨3200, 2⟩ else none)) ∧
    (r = .handle → (s.led 0 = true ↔ 3 ≤ s.dsu.level) ∧
      ∀ i, i < 4 → (s.led (i + 1) = true ↔ if s.tiu.level = 0 then gauge i else alert)) ∧
    (r = .pack → (s.led 0 = true ↔ alert) ∧ ∀ i, i < 4 → (s.led (i + 1) = true ↔ gauge i)) ∧
    (r = .dock → (s.led 0 = true ↔ alert) ∧ s.led 2 = false ∧ s.led 3 = false ∧ s.led 4 = false ∧
      (s.led 1 = true ↔ s.ccu.run = .active ∨
        ((s.ccu.run = .offer ∨ s.ccu.run = .suspended) ∧ s.tiu.dockLedStep = 0) ∨
        (s.ccu.run = .rest ∧ s.tiu.dockLedStep % 2 = 0))) ∧
    ∀ (b : Bool) (i : Nat), ({ s with settings.common.mute := b } : State).led i = s.led i) ∧
  (∀ s : State, s.power ≠ .running ∨ s.role = none → s.tone = none ∧ (∀ i, s.led i = false) ∧ s.dswGate = false ∧
    s.cswGate = false ∧ (∀ i, s.bleed i = false) ∧ s.bridge = false ∧ s.headGate = false ∧ s.converterGate = false ∧
    s.wandLine = .released) ∧
  (∀ (r : Role) (s : State), s.power = .running → s.role = some r →
    (s.dswGate = true ↔ s.cmu.dsw = .on ∨ s.cmu.dsw = .cutPending) ∧ (s.cswGate = true ↔ s.cmu.csw = true) ∧
    (∀ i, s.bleed i = true ↔ i ∈ s.cmu.balance ∧ s.cmu.sweeping = false) ∧
    (s.bridge = true ↔ s.mdu.motor = .align ∨ s.mdu.motor = .ramp ∨ s.mdu.motor = .run) ∧
    (s.headGate = true ↔ s.head.output = .on) ∧ (s.converterGate = true ↔ s.ccu.conv ≠ .off) ∧
    (∀ f, s.liu.line = .sending f → s.wandLine = .frame (f.bytes r s.tag)) ∧
    (s.liu.line = .pulsing → s.wandLine = .wakePulse) ∧
    ((∀ f, s.liu.line ≠ .sending f) → s.liu.line ≠ .pulsing → s.wandLine = .released)) ∧
  (∀ w : Wave, 1 ≤ w.volume → w.volume ≤ 8 → w.highTime = (9 - w.volume) * 625) ∧
  (∀ (r : Role) (c : Instr) (s t : State), s.Runs r → (∀ dt straps tag block, c ≠ .powerOnReset dt straps tag block) →
    (∀ dt tag block, c ≠ .supplyDipReset dt tag block) → (∀ dt f, c ≠ .endOfStartUp dt f) →
    (∀ dt b, c ≠ .supplyFall dt b) → exec c s = .next t →
    (r = .handle →
      (t.ssc.doze ≠ .awake ∨ t.tiu.level ≠ 0 ∨ t.pv.pack.state = .absent ∨ t.pv.pack.stored = none →
        t.tiu.gauge = ⟨0, false, false⟩) ∧
      (∀ p, t.ssc.doze = .awake → t.tiu.level = 0 → t.pv.pack.state = .fresh → t.pv.pack.stored = some p →
        t.tiu.gauge = ⟨min 4 (p.soc.toNat / 50 + 1), false, false⟩) ∧
      (∀ p, t.ssc.doze = .awake → t.tiu.level = 0 → t.pv.pack.state ≠ .fresh → t.pv.pack.state ≠ .absent →
        t.pv.pack.stored = some p →
        t.tiu.gauge.lit = min 4 (p.soc.toNat / 50 + 1) ∧ t.tiu.gauge.blinking = true)) ∧
    (r = .pack →
      (t.tiu.displayTimer = none → t.tiu.gauge = ⟨0, false, false⟩) ∧
      (t.tiu.displayTimer.isSome → t.tiu.gauge.lit = min 4 (t.gauge.soc / 50 + 1) ∧
        t.tiu.gauge.blinking = (t.cmu.dsw != .on))) ∧
    (r = .dock → t.tiu.gauge = ⟨0, false, false⟩))

/-! ### Invariants that every step keeps -/

/-- R137, R148: the condition list keeps its order, holds no code twice and only codes of the role.
R137: a list in order holds at most 16 records. -/
def Obligations.StepKeepsListOk : Prop :=
  (∀ s t : State, s.ListOk → step s = .next t → t.ListOk) ∧
  (∀ s : State, s.ListOk → s.cdu.length ≤ 16)

/-- R98: the charge switch is closed only in ACCEPT with no charge-scope HOLD or TRIP present.
R94: the discharge switch is never ON while a discharge-scope HOLD or TRIP is present. -/
def Obligations.StepKeepsSwitchesSafe : Prop :=
  (∀ s t : State, s.ChargeSafe → step s = .next t → t.ChargeSafe) ∧
  (∀ s t : State, s.DischargeSafe → step s = .next t → t.DischargeSafe)

/-- R131, R143: the converter is on only in ACTIVE with credit and no HOLD or TRIP.
R127: while a run is in progress its remaining credit is below 32768, and it is the stored allowance less the baseline
and the delivered charge. -/
def Obligations.StepKeepsDockSafe : Prop :=
  (∀ s t : State, s.ConverterSafe → step s = .next t → t.ConverterSafe) ∧
  (∀ s t : State, s.CreditSafe → step s = .next t → t.CreditSafe) ∧
  (∀ s t : State, s.CreditFormed → step s = .next t → t.CreditFormed)

/-- R92, R134: the balance set and the charge history keep their bounds.
R71, R75, R77: the window count and the dirt ring keep their bounds, and the score is formed from the ring. -/
def Obligations.StepKeepsBounds : Prop :=
  (∀ s t : State, s.Bounded → step s = .next t → t.Bounded) ∧
  (∀ s t : State, s.DirtOk → step s = .next t → t.DirtOk)

/-- R150, R152: the tone unit stays in order. -/
def Obligations.StepKeepsToneSafe : Prop :=
  ∀ s t : State, s.ToneSafe → step s = .next t → t.ToneSafe
end

