-- ==== Sys2Proof/Laws/Events.lean ====
section
/-! SUPPORT. What a command of a running die is: its effect after its time, and then what ends every event. -/

namespace Sys2Proof.Machine

/-- What ends an event leaves all but the line and the slot wait as it was; where the LIU may present nothing, the
line stands and no slot wait runs (R165, R167). -/
theorem State.present_eq (s : State) :
    s.present = { s with liu.line := s.present.liu.line, liu.waiting := s.present.liu.waiting } ∧
      (s.maySend = false → s.present.liu.line = s.liu.line ∧ s.present.liu.waiting = none) := by
  unfold State.present State.startFrame
  repeat' split
  all_goals exact ⟨rfl, fun h => by simp_all⟩

/-- The end of an event where no wake is due (R112, R161, R167, R177). -/
theorem State.finish_endsAs (u : State) (h : u.ssc.wakeAsked = false) : u.EndsAs u.finish := by
  have hf : u.finish = u.idleSettle.displaySettle.present := by simp [State.finish, State.wakeIfAsked, h]
  have hp := State.present_eq u.idleSettle.displaySettle
  rw [hf]
  refine ⟨?_, fun hm => ?_⟩
  · rw [hp.1]; rfl
  · have := hp.2 (by
      rw [← hm]
      simp only [State.maySend, State.notDozing, State.has, State.displaySettle, State.idleSettle])
    simpa [State.displaySettle, State.idleSettle] using this

/-- A command of a running, configured die answers a next state: its effect after its time, ended (log 1). -/
theorem event_next {s : State} {r : Role} (dt : Nat) (f : State → State) (hp : s.power = .running)
    (hr : s.role = some r) : event dt f s = .next (f (s.advance dt)).finish := by simp [event, hp, hr]

/-- A command whose effect leaves no wake due ends as that effect. -/
theorem event_endsAs {s : State} {r : Role} (dt : Nat) (f : State → State) (h : s.Runs r)
    (hw : (f (s.advance dt)).ssc.wakeAsked = false) :
    ∃ t, event dt f s = .next t ∧ (f (s.advance dt)).EndsAs t :=
  ⟨_, event_next dt f h.1 h.2.1, State.finish_endsAs _ hw⟩

/-- A die that does not run, or has no role, takes no such command (log 1, log 5). -/
theorem event_still {s : State} (dt : Nat) (f : State → State) (h : s.power ≠ .running ∨ s.role = none) :
    event dt f s = .next s := by
  rcases h with h | h <;> simp [event, h]

end Sys2Proof.Machine
end

