-- ==== Sys2Proof/Laws/Fields.lean ====
section
/-! SUPPORT. What the named operations leave alone. A mask of a state blanks the parts that a family of operations may
change: `(f s).mask = s.mask` says that `f` changes nothing else, and chains by `rw`. -/

namespace Sys2Proof.Machine

/-! ### Field by field: time, the wake marks, the counters -/

@[simp] theorem State.advance_pending (dt : Nat) (s : State) : (s.advance dt).pending = s.pending := rfl
@[simp] theorem State.advance_power (dt : Nat) (s : State) : (s.advance dt).power = s.power := rfl
@[simp] theorem State.advance_role (dt : Nat) (s : State) : (s.advance dt).role = s.role := rfl
@[simp] theorem State.advance_tag (dt : Nat) (s : State) : (s.advance dt).tag = s.tag := rfl
@[simp] theorem State.advance_settings (dt : Nat) (s : State) : (s.advance dt).settings = s.settings := rfl
@[simp] theorem State.advance_settingsFailed (dt : Nat) (s : State) : (s.advance dt).settingsFailed = s.settingsFailed := rfl
@[simp] theorem State.advance_dipCause (dt : Nat) (s : State) : (s.advance dt).dipCause = s.dipCause := rfl
@[simp] theorem State.advance_ssc (dt : Nat) (s : State) : (s.advance dt).ssc = s.ssc := rfl
@[simp] theorem State.advance_liu (dt : Nat) (s : State) : (s.advance dt).liu = s.liu := rfl
@[simp] theorem State.advance_pv (dt : Nat) (s : State) : (s.advance dt).pv = s.pv := rfl
@[simp] theorem State.advance_cdu (dt : Nat) (s : State) : (s.advance dt).cdu = s.cdu := rfl
@[simp] theorem State.advance_tiu (dt : Nat) (s : State) : (s.advance dt).tiu = s.tiu := rfl
@[simp] theorem State.advance_hb (dt : Nat) (s : State) : (s.advance dt).hb = s.hb := rfl
@[simp] theorem State.advance_pb (dt : Nat) (s : State) : (s.advance dt).pb = s.pb := rfl
@[simp] theorem State.advance_db (dt : Nat) (s : State) : (s.advance dt).db = s.db := rfl
@[simp] theorem State.advance_head (dt : Nat) (s : State) : (s.advance dt).head = s.head := rfl
@[simp] theorem State.advance_dsu (dt : Nat) (s : State) : (s.advance dt).dsu = s.dsu := rfl
@[simp] theorem State.advance_cmu (dt : Nat) (s : State) : (s.advance dt).cmu = s.cmu := rfl
@[simp] theorem State.advance_gauge (dt : Nat) (s : State) : (s.advance dt).gauge = s.gauge := rfl
@[simp] theorem State.advance_path (dt : Nat) (s : State) : (s.advance dt).path = s.path := rfl
@[simp] theorem State.advance_ccu (dt : Nat) (s : State) : (s.advance dt).ccu = s.ccu := rfl
@[simp] theorem State.advance_clock (dt : Nat) (s : State) : (s.advance dt).clock = s.clock + dt := rfl
@[simp] theorem State.advance_mdu (dt : Nat) (s : State) :
    (s.advance dt).mdu = { s.mdu with speed := s.speedAt (s.clock + dt) } := rfl

@[simp] theorem State.countAccepted_pending (tag : Half) (s : State) : (s.countAccepted tag).pending = s.pending := rfl
@[simp] theorem State.countAccepted_power (tag : Half) (s : State) : (s.countAccepted tag).power = s.power := rfl
@[simp] theorem State.countAccepted_role (tag : Half) (s : State) : (s.countAccepted tag).role = s.role := rfl
@[simp] theorem State.countAccepted_tag (tag : Half) (s : State) : (s.countAccepted tag).tag = s.tag := rfl
@[simp] theorem State.countAccepted_settings (tag : Half) (s : State) : (s.countAccepted tag).settings = s.settings := rfl
@[simp] theorem State.countAccepted_settingsFailed (tag : Half) (s : State) : (s.countAccepted tag).settingsFailed = s.settingsFailed := rfl
@[simp] theorem State.countAccepted_dipCause (tag : Half) (s : State) : (s.countAccepted tag).dipCause = s.dipCause := rfl
@[simp] theorem State.countAccepted_clock (tag : Half) (s : State) : (s.countAccepted tag).clock = s.clock := rfl
@[simp] theorem State.countAccepted_ssc (tag : Half) (s : State) : (s.countAccepted tag).ssc = s.ssc := rfl
@[simp] theorem State.countAccepted_pv (tag : Half) (s : State) : (s.countAccepted tag).pv = s.pv := rfl
@[simp] theorem State.countAccepted_cdu (tag : Half) (s : State) : (s.countAccepted tag).cdu = s.cdu := rfl
@[simp] theorem State.countAccepted_tiu (tag : Half) (s : State) : (s.countAccepted tag).tiu = s.tiu := rfl
@[simp] theorem State.countAccepted_hb (tag : Half) (s : State) : (s.countAccepted tag).hb = s.hb := rfl
@[simp] theorem State.countAccepted_pb (tag : Half) (s : State) : (s.countAccepted tag).pb = s.pb := rfl
@[simp] theorem State.countAccepted_db (tag : Half) (s : State) : (s.countAccepted tag).db = s.db := rfl
@[simp] theorem State.countAccepted_mdu (tag : Half) (s : State) : (s.countAccepted tag).mdu = s.mdu := rfl
@[simp] theorem State.countAccepted_head (tag : Half) (s : State) : (s.countAccepted tag).head = s.head := rfl
@[simp] theorem State.countAccepted_dsu (tag : Half) (s : State) : (s.countAccepted tag).dsu = s.dsu := rfl
@[simp] theorem State.countAccepted_cmu (tag : Half) (s : State) : (s.countAccepted tag).cmu = s.cmu := rfl
@[simp] theorem State.countAccepted_gauge (tag : Half) (s : State) : (s.countAccepted tag).gauge = s.gauge := rfl
@[simp] theorem State.countAccepted_path (tag : Half) (s : State) : (s.countAccepted tag).path = s.path := rfl
@[simp] theorem State.countAccepted_ccu (tag : Half) (s : State) : (s.countAccepted tag).ccu = s.ccu := rfl
@[simp] theorem State.countRejected_pending (s : State) : (s.countRejected).pending = s.pending := rfl
@[simp] theorem State.countRejected_power (s : State) : (s.countRejected).power = s.power := rfl
@[simp] theorem State.countRejected_role (s : State) : (s.countRejected).role = s.role := rfl
@[simp] theorem State.countRejected_tag (s : State) : (s.countRejected).tag = s.tag := rfl
@[simp] theorem State.countRejected_settings (s : State) : (s.countRejected).settings = s.settings := rfl
@[simp] theorem State.countRejected_settingsFailed (s : State) : (s.countRejected).settingsFailed = s.settingsFailed := rfl
@[simp] theorem State.countRejected_dipCause (s : State) : (s.countRejected).dipCause = s.dipCause := rfl
@[simp] theorem State.countRejected_clock (s : State) : (s.countRejected).clock = s.clock := rfl
@[simp] theorem State.countRejected_ssc (s : State) : (s.countRejected).ssc = s.ssc := rfl
@[simp] theorem State.countRejected_pv (s : State) : (s.countRejected).pv = s.pv := rfl
@[simp] theorem State.countRejected_cdu (s : State) : (s.countRejected).cdu = s.cdu := rfl
@[simp] theorem State.countRejected_tiu (s : State) : (s.countRejected).tiu = s.tiu := rfl
@[simp] theorem State.countRejected_hb (s : State) : (s.countRejected).hb = s.hb := rfl
@[simp] theorem State.countRejected_pb (s : State) : (s.countRejected).pb = s.pb := rfl
@[simp] theorem State.countRejected_db (s : State) : (s.countRejected).db = s.db := rfl
@[simp] theorem State.countRejected_mdu (s : State) : (s.countRejected).mdu = s.mdu := rfl
@[simp] theorem State.countRejected_head (s : State) : (s.countRejected).head = s.head := rfl
@[simp] theorem State.countRejected_dsu (s : State) : (s.countRejected).dsu = s.dsu := rfl
@[simp] theorem State.countRejected_cmu (s : State) : (s.countRejected).cmu = s.cmu := rfl
@[simp] theorem State.countRejected_gauge (s : State) : (s.countRejected).gauge = s.gauge := rfl
@[simp] theorem State.countRejected_path (s : State) : (s.countRejected).path = s.path := rfl
@[simp] theorem State.countRejected_ccu (s : State) : (s.countRejected).ccu = s.ccu := rfl
@[simp] theorem State.requestWakePulse_pending (s : State) : (s.requestWakePulse).pending = s.pending := rfl
@[simp] theorem State.requestWakePulse_power (s : State) : (s.requestWakePulse).power = s.power := rfl
@[simp] theorem State.requestWakePulse_role (s : State) : (s.requestWakePulse).role = s.role := rfl
@[simp] theorem State.requestWakePulse_tag (s : State) : (s.requestWakePulse).tag = s.tag := rfl
@[simp] theorem State.requestWakePulse_settings (s : State) : (s.requestWakePulse).settings = s.settings := rfl
@[simp] theorem State.requestWakePulse_settingsFailed (s : State) : (s.requestWakePulse).settingsFailed = s.settingsFailed := rfl
@[simp] theorem State.requestWakePulse_dipCause (s : State) : (s.requestWakePulse).dipCause = s.dipCause := rfl
@[simp] theorem State.requestWakePulse_clock (s : State) : (s.requestWakePulse).clock = s.clock := rfl
@[simp] theorem State.requestWakePulse_ssc (s : State) : (s.requestWakePulse).ssc = s.ssc := rfl
@[simp] theorem State.requestWakePulse_pv (s : State) : (s.requestWakePulse).pv = s.pv := rfl
@[simp] theorem State.requestWakePulse_cdu (s : State) : (s.requestWakePulse).cdu = s.cdu := rfl
@[simp] theorem State.requestWakePulse_tiu (s : State) : (s.requestWakePulse).tiu = s.tiu := rfl
@[simp] theorem State.requestWakePulse_hb (s : State) : (s.requestWakePulse).hb = s.hb := rfl
@[simp] theorem State.requestWakePulse_pb (s : State) : (s.requestWakePulse).pb = s.pb := rfl
@[simp] theorem State.requestWakePulse_db (s : State) : (s.requestWakePulse).db = s.db := rfl
@[simp] theorem State.requestWakePulse_mdu (s : State) : (s.requestWakePulse).mdu = s.mdu := rfl
@[simp] theorem State.requestWakePulse_head (s : State) : (s.requestWakePulse).head = s.head := rfl
@[simp] theorem State.requestWakePulse_dsu (s : State) : (s.requestWakePulse).dsu = s.dsu := rfl
@[simp] theorem State.requestWakePulse_cmu (s : State) : (s.requestWakePulse).cmu = s.cmu := rfl
@[simp] theorem State.requestWakePulse_gauge (s : State) : (s.requestWakePulse).gauge = s.gauge := rfl
@[simp] theorem State.requestWakePulse_path (s : State) : (s.requestWakePulse).path = s.path := rfl
@[simp] theorem State.requestWakePulse_ccu (s : State) : (s.requestWakePulse).ccu = s.ccu := rfl
@[simp] theorem State.announce_pending (i : Item) (l : Nat) (s : State) : (s.announce i l).pending = s.pending := rfl
@[simp] theorem State.announce_power (i : Item) (l : Nat) (s : State) : (s.announce i l).power = s.power := rfl
@[simp] theorem State.announce_role (i : Item) (l : Nat) (s : State) : (s.announce i l).role = s.role := rfl
@[simp] theorem State.announce_tag (i : Item) (l : Nat) (s : State) : (s.announce i l).tag = s.tag := rfl
@[simp] theorem State.announce_settings (i : Item) (l : Nat) (s : State) : (s.announce i l).settings = s.settings := rfl
@[simp] theorem State.announce_settingsFailed (i : Item) (l : Nat) (s : State) : (s.announce i l).settingsFailed = s.settingsFailed := rfl
@[simp] theorem State.announce_dipCause (i : Item) (l : Nat) (s : State) : (s.announce i l).dipCause = s.dipCause := rfl
@[simp] theorem State.announce_clock (i : Item) (l : Nat) (s : State) : (s.announce i l).clock = s.clock := rfl
@[simp] theorem State.announce_ssc (i : Item) (l : Nat) (s : State) : (s.announce i l).ssc = s.ssc := rfl
@[simp] theorem State.announce_liu (i : Item) (l : Nat) (s : State) : (s.announce i l).liu = s.liu := rfl
@[simp] theorem State.announce_pv (i : Item) (l : Nat) (s : State) : (s.announce i l).pv = s.pv := rfl
@[simp] theorem State.announce_cdu (i : Item) (l : Nat) (s : State) : (s.announce i l).cdu = s.cdu := rfl
@[simp] theorem State.announce_hb (i : Item) (l : Nat) (s : State) : (s.announce i l).hb = s.hb := rfl
@[simp] theorem State.announce_pb (i : Item) (l : Nat) (s : State) : (s.announce i l).pb = s.pb := rfl
@[simp] theorem State.announce_db (i : Item) (l : Nat) (s : State) : (s.announce i l).db = s.db := rfl
@[simp] theorem State.announce_mdu (i : Item) (l : Nat) (s : State) : (s.announce i l).mdu = s.mdu := rfl
@[simp] theorem State.announce_head (i : Item) (l : Nat) (s : State) : (s.announce i l).head = s.head := rfl
@[simp] theorem State.announce_dsu (i : Item) (l : Nat) (s : State) : (s.announce i l).dsu = s.dsu := rfl
@[simp] theorem State.announce_cmu (i : Item) (l : Nat) (s : State) : (s.announce i l).cmu = s.cmu := rfl
@[simp] theorem State.announce_gauge (i : Item) (l : Nat) (s : State) : (s.announce i l).gauge = s.gauge := rfl
@[simp] theorem State.announce_path (i : Item) (l : Nat) (s : State) : (s.announce i l).path = s.path := rfl
@[simp] theorem State.announce_ccu (i : Item) (l : Nat) (s : State) : (s.announce i l).ccu = s.ccu := rfl
@[simp] theorem State.grantFigures_pending (p : Bool) (s : State) : (s.grantFigures p).pending = s.pending := rfl
@[simp] theorem State.grantFigures_power (p : Bool) (s : State) : (s.grantFigures p).power = s.power := rfl
@[simp] theorem State.grantFigures_role (p : Bool) (s : State) : (s.grantFigures p).role = s.role := rfl
@[simp] theorem State.grantFigures_tag (p : Bool) (s : State) : (s.grantFigures p).tag = s.tag := rfl
@[simp] theorem State.grantFigures_settings (p : Bool) (s : State) : (s.grantFigures p).settings = s.settings := rfl
@[simp] theorem State.grantFigures_settingsFailed (p : Bool) (s : State) : (s.grantFigures p).settingsFailed = s.settingsFailed := rfl
@[simp] theorem State.grantFigures_dipCause (p : Bool) (s : State) : (s.grantFigures p).dipCause = s.dipCause := rfl
@[simp] theorem State.grantFigures_clock (p : Bool) (s : State) : (s.grantFigures p).clock = s.clock := rfl
@[simp] theorem State.grantFigures_ssc (p : Bool) (s : State) : (s.grantFigures p).ssc = s.ssc := rfl
@[simp] theorem State.grantFigures_liu (p : Bool) (s : State) : (s.grantFigures p).liu = s.liu := rfl
@[simp] theorem State.grantFigures_pv (p : Bool) (s : State) : (s.grantFigures p).pv = s.pv := rfl
@[simp] theorem State.grantFigures_cdu (p : Bool) (s : State) : (s.grantFigures p).cdu = s.cdu := rfl
@[simp] theorem State.grantFigures_tiu (p : Bool) (s : State) : (s.grantFigures p).tiu = s.tiu := rfl
@[simp] theorem State.grantFigures_pb (p : Bool) (s : State) : (s.grantFigures p).pb = s.pb := rfl
@[simp] theorem State.grantFigures_db (p : Bool) (s : State) : (s.grantFigures p).db = s.db := rfl
@[simp] theorem State.grantFigures_mdu (p : Bool) (s : State) : (s.grantFigures p).mdu = s.mdu := rfl
@[simp] theorem State.grantFigures_head (p : Bool) (s : State) : (s.grantFigures p).head = s.head := rfl
@[simp] theorem State.grantFigures_dsu (p : Bool) (s : State) : (s.grantFigures p).dsu = s.dsu := rfl
@[simp] theorem State.grantFigures_cmu (p : Bool) (s : State) : (s.grantFigures p).cmu = s.cmu := rfl
@[simp] theorem State.grantFigures_gauge (p : Bool) (s : State) : (s.grantFigures p).gauge = s.gauge := rfl
@[simp] theorem State.grantFigures_path (p : Bool) (s : State) : (s.grantFigures p).path = s.path := rfl
@[simp] theorem State.grantFigures_ccu (p : Bool) (s : State) : (s.grantFigures p).ccu = s.ccu := rfl

end Sys2Proof.Machine
end

