-- ==== Sys2Proof/Laws/State.lean ====
section
/-! SUPPORT. What the shared operations and each role's operations leave alone. A mask of a state blanks the parts a
family of operations may change: `(f s).mask = s.mask` says that `f` changes nothing else. A field that a mask keeps is
read off with `congrArg`. -/

namespace Sys2Proof.Machine

set_option linter.unusedTactic false
set_option linter.unreachableTactic false
set_option linter.unnecessarySeqFocus false

/-! ### Shared operations: the whole of what they can change -/

/-- A request of the state notice changes that request alone (R8 to R12). -/
theorem State.requestState_frame (u : Bool) (s : State) :
    s.requestState u = { s with liu.tx.state := (s.requestState u).liu.tx.state } := by
  unfold State.requestState; split <;> rfl

/-- A request of the profile changes that request alone (R10). -/
theorem State.requestProfile_frame (s : State) :
    s.requestProfile = { s with liu.tx.profile := s.requestProfile.liu.tx.profile } := by
  unfold State.requestProfile; split <;> rfl

/-- A request of a reply changes that request alone (R21). -/
theorem State.requestReply_frame (r : BitVec 4) (i : Byte) (s : State) :
    s.requestReply r i = { s with liu.tx.reply := (s.requestReply r i).liu.tx.reply } := by
  unfold State.requestReply; split <;> rfl

/-- A local wake cause leaves its mark alone (R179). -/
theorem State.wakeCause_frame (s : State) : s.wakeCause = { s with ssc.causeAt := s.wakeCause.ssc.causeAt } := by
  unfold State.wakeCause; split <;> rfl
theorem State.askWake_frame (s : State) : s.askWake = { s with ssc.wakeAsked := s.askWake.ssc.wakeAsked } := by
  unfold State.askWake; split <;> rfl

/-- A raise changes the list, the tone unit and the state notice's request (R139, R151, R9). -/
theorem State.raiseRec_frame (c : Code) (s : State) :
    s.raiseRec c =
      { s with cdu := (s.raiseRec c).cdu, tiu := (s.raiseRec c).tiu, liu.tx.state := (s.raiseRec c).liu.tx.state } := by
  unfold State.raiseRec State.requestState State.announce
  dsimp only
  repeat' split
  all_goals rfl

/-- A removal changes the list and the tone unit (R140, R153). -/
theorem State.dropRec_frame (c : Code) (s : State) :
    s.dropRec c = { s with cdu := (s.dropRec c).cdu, tiu := (s.dropRec c).tiu } := by
  unfold State.dropRec; split <;> rfl

/-- A clear changes the list and the tone unit (R140). -/
theorem State.clearRec_frame (b : Block) (c : Code) (s : State) :
    s.clearRec b c = { s with cdu := (s.clearRec b c).cdu, tiu := (s.clearRec b c).tiu } := by
  unfold State.clearRec State.dropRec; repeat' split
  all_goals rfl

/-- A cause-gone report changes the list alone (R140). -/
theorem State.latchRec_frame (b : Block) (c : Code) (s : State) :
    s.latchRec b c = { s with cdu := (s.latchRec b c).cdu } := by
  unfold State.latchRec; split <;> rfl

/-! ### Masks -/

/-- All but the list, the tone unit and the LIU. -/
def State.sharedMask (s : State) : State := { s with cdu := [], tiu := {}, liu := {} }

/-- All but what a HANDLE's blocks change at one event. -/
def State.handleMask (s : State) : State :=
  { s with cdu := [], tiu := {}, liu := {}, mdu := {}, hb := {}, dsu := {}, head := {} }

/-- All but what a PACK's blocks change at one event. -/
def State.packMask (s : State) : State :=
  { s with cdu := [], tiu := {}, liu := {}, ssc := {}, pb := {}, cmu := {}, path := {}, gauge := {} }

/-- All but what a DOCK's blocks change at one event. -/
def State.dockMask (s : State) : State := { s with cdu := [], tiu := {}, liu := {}, ssc := {}, db := {}, ccu := {} }

/-- All but what the blocks of any role change at one event: the queue, supply, identity, settings and time. -/
def State.eventMask (s : State) : State :=
  { pending := s.pending, power := s.power, role := s.role, tag := s.tag, settings := s.settings
    settingsFailed := s.settingsFailed, dipCause := s.dipCause, clock := s.clock }

/-- The parts that `sharedMask` blanks lie within those of the role masks. -/
theorem State.handleMask_of_shared {s t : State} (h : s.sharedMask = t.sharedMask) : s.handleMask = t.handleMask :=
  show s.sharedMask.handleMask = t.sharedMask.handleMask by rw [h]
/-- See `handleMask_of_shared`. -/
theorem State.packMask_of_shared {s t : State} (h : s.sharedMask = t.sharedMask) : s.packMask = t.packMask :=
  show s.sharedMask.packMask = t.sharedMask.packMask by rw [h]
/-- See `handleMask_of_shared`. -/
theorem State.dockMask_of_shared {s t : State} (h : s.sharedMask = t.sharedMask) : s.dockMask = t.dockMask :=
  show s.sharedMask.dockMask = t.sharedMask.dockMask by rw [h]
/-- What a HANDLE's event leaves alone holds the event mask. -/
theorem State.eventMask_of_handle {s t : State} (h : s.handleMask = t.handleMask) : s.eventMask = t.eventMask :=
  show s.handleMask.eventMask = t.handleMask.eventMask by rw [h]
/-- What a PACK's event leaves alone holds the event mask. -/
theorem State.eventMask_of_pack {s t : State} (h : s.packMask = t.packMask) : s.eventMask = t.eventMask :=
  show s.packMask.eventMask = t.packMask.eventMask by rw [h]
/-- What a DOCK's event leaves alone holds the event mask. -/
theorem State.eventMask_of_dock {s t : State} (h : s.dockMask = t.dockMask) : s.eventMask = t.eventMask :=
  show s.dockMask.eventMask = t.dockMask.eventMask by rw [h]

/-! ### Shared operations under the masks -/

@[simp] theorem State.requestState_sharedMask (u : Bool) (s : State) : (s.requestState u).sharedMask = s.sharedMask := by
  rw [State.requestState_frame]; rfl
@[simp] theorem State.requestState_handleMask (u : Bool) (s : State) : (s.requestState u).handleMask = s.handleMask :=
  State.handleMask_of_shared (State.requestState_sharedMask u s)
@[simp] theorem State.requestState_packMask (u : Bool) (s : State) : (s.requestState u).packMask = s.packMask :=
  State.packMask_of_shared (State.requestState_sharedMask u s)
@[simp] theorem State.requestState_dockMask (u : Bool) (s : State) : (s.requestState u).dockMask = s.dockMask :=
  State.dockMask_of_shared (State.requestState_sharedMask u s)
@[simp] theorem State.requestProfile_sharedMask (s : State) : (s.requestProfile).sharedMask = s.sharedMask := by
  rw [State.requestProfile_frame]; rfl
@[simp] theorem State.requestProfile_handleMask (s : State) : (s.requestProfile).handleMask = s.handleMask :=
  State.handleMask_of_shared (State.requestProfile_sharedMask  s)
@[simp] theorem State.requestProfile_packMask (s : State) : (s.requestProfile).packMask = s.packMask :=
  State.packMask_of_shared (State.requestProfile_sharedMask  s)
@[simp] theorem State.requestProfile_dockMask (s : State) : (s.requestProfile).dockMask = s.dockMask :=
  State.dockMask_of_shared (State.requestProfile_sharedMask  s)
@[simp] theorem State.requestReply_sharedMask (r : BitVec 4) (i : Byte) (s : State) : (s.requestReply r i).sharedMask = s.sharedMask := by
  rw [State.requestReply_frame]; rfl
@[simp] theorem State.requestReply_handleMask (r : BitVec 4) (i : Byte) (s : State) : (s.requestReply r i).handleMask = s.handleMask :=
  State.handleMask_of_shared (State.requestReply_sharedMask r i s)
@[simp] theorem State.requestReply_packMask (r : BitVec 4) (i : Byte) (s : State) : (s.requestReply r i).packMask = s.packMask :=
  State.packMask_of_shared (State.requestReply_sharedMask r i s)
@[simp] theorem State.requestReply_dockMask (r : BitVec 4) (i : Byte) (s : State) : (s.requestReply r i).dockMask = s.dockMask :=
  State.dockMask_of_shared (State.requestReply_sharedMask r i s)
@[simp] theorem State.raiseRec_sharedMask (c : Code) (s : State) : (s.raiseRec c).sharedMask = s.sharedMask := by
  rw [State.raiseRec_frame]; rfl
@[simp] theorem State.raiseRec_handleMask (c : Code) (s : State) : (s.raiseRec c).handleMask = s.handleMask :=
  State.handleMask_of_shared (State.raiseRec_sharedMask c s)
@[simp] theorem State.raiseRec_packMask (c : Code) (s : State) : (s.raiseRec c).packMask = s.packMask :=
  State.packMask_of_shared (State.raiseRec_sharedMask c s)
@[simp] theorem State.raiseRec_dockMask (c : Code) (s : State) : (s.raiseRec c).dockMask = s.dockMask :=
  State.dockMask_of_shared (State.raiseRec_sharedMask c s)
@[simp] theorem State.dropRec_sharedMask (c : Code) (s : State) : (s.dropRec c).sharedMask = s.sharedMask := by
  rw [State.dropRec_frame]; rfl
@[simp] theorem State.dropRec_handleMask (c : Code) (s : State) : (s.dropRec c).handleMask = s.handleMask :=
  State.handleMask_of_shared (State.dropRec_sharedMask c s)
@[simp] theorem State.dropRec_packMask (c : Code) (s : State) : (s.dropRec c).packMask = s.packMask :=
  State.packMask_of_shared (State.dropRec_sharedMask c s)
@[simp] theorem State.dropRec_dockMask (c : Code) (s : State) : (s.dropRec c).dockMask = s.dockMask :=
  State.dockMask_of_shared (State.dropRec_sharedMask c s)
@[simp] theorem State.clearRec_sharedMask (b : Block) (c : Code) (s : State) : (s.clearRec b c).sharedMask = s.sharedMask := by
  rw [State.clearRec_frame]; rfl
@[simp] theorem State.clearRec_handleMask (b : Block) (c : Code) (s : State) : (s.clearRec b c).handleMask = s.handleMask :=
  State.handleMask_of_shared (State.clearRec_sharedMask b c s)
@[simp] theorem State.clearRec_packMask (b : Block) (c : Code) (s : State) : (s.clearRec b c).packMask = s.packMask :=
  State.packMask_of_shared (State.clearRec_sharedMask b c s)
@[simp] theorem State.clearRec_dockMask (b : Block) (c : Code) (s : State) : (s.clearRec b c).dockMask = s.dockMask :=
  State.dockMask_of_shared (State.clearRec_sharedMask b c s)
@[simp] theorem State.latchRec_sharedMask (b : Block) (c : Code) (s : State) : (s.latchRec b c).sharedMask = s.sharedMask := by
  rw [State.latchRec_frame]; rfl
@[simp] theorem State.latchRec_handleMask (b : Block) (c : Code) (s : State) : (s.latchRec b c).handleMask = s.handleMask :=
  State.handleMask_of_shared (State.latchRec_sharedMask b c s)
@[simp] theorem State.latchRec_packMask (b : Block) (c : Code) (s : State) : (s.latchRec b c).packMask = s.packMask :=
  State.packMask_of_shared (State.latchRec_sharedMask b c s)
@[simp] theorem State.latchRec_dockMask (b : Block) (c : Code) (s : State) : (s.latchRec b c).dockMask = s.dockMask :=
  State.dockMask_of_shared (State.latchRec_sharedMask b c s)
@[simp] theorem State.wakeCause_packMask (s : State) : s.wakeCause.packMask = s.packMask := by
  rw [State.wakeCause_frame]; rfl
@[simp] theorem State.askWake_packMask (s : State) : s.askWake.packMask = s.packMask := by
  rw [State.askWake_frame]; rfl
@[simp] theorem State.askWake_dockMask (s : State) : s.askWake.dockMask = s.dockMask := by
  rw [State.askWake_frame]; rfl
@[simp] theorem State.announce_handleMask (i : Item) (l : Nat) (s : State) : (s.announce i l).handleMask = s.handleMask := rfl
@[simp] theorem State.handleMask_cdu (x : List Record) (s : State) :
    State.handleMask { s with cdu := x } = s.handleMask := rfl
@[simp] theorem State.handleMask_tiu (x : Tiu) (s : State) :
    State.handleMask { s with tiu := x } = s.handleMask := rfl
@[simp] theorem State.handleMask_liu (x : Liu) (s : State) :
    State.handleMask { s with liu := x } = s.handleMask := rfl
@[simp] theorem State.handleMask_mdu (x : Mdu) (s : State) :
    State.handleMask { s with mdu := x } = s.handleMask := rfl
@[simp] theorem State.handleMask_hb (x : HandleBudget) (s : State) :
    State.handleMask { s with hb := x } = s.handleMask := rfl
@[simp] theorem State.handleMask_dsu (x : Dsu) (s : State) :
    State.handleMask { s with dsu := x } = s.handleMask := rfl
@[simp] theorem State.handleMask_head (x : Head) (s : State) :
    State.handleMask { s with head := x } = s.handleMask := rfl
@[simp] theorem State.announce_packMask (i : Item) (l : Nat) (s : State) : (s.announce i l).packMask = s.packMask := rfl
@[simp] theorem State.packMask_cdu (x : List Record) (s : State) :
    State.packMask { s with cdu := x } = s.packMask := rfl
@[simp] theorem State.packMask_tiu (x : Tiu) (s : State) :
    State.packMask { s with tiu := x } = s.packMask := rfl
@[simp] theorem State.packMask_liu (x : Liu) (s : State) :
    State.packMask { s with liu := x } = s.packMask := rfl
@[simp] theorem State.packMask_ssc (x : Ssc) (s : State) :
    State.packMask { s with ssc := x } = s.packMask := rfl
@[simp] theorem State.packMask_pb (x : PackBudget) (s : State) :
    State.packMask { s with pb := x } = s.packMask := rfl
@[simp] theorem State.packMask_cmu (x : Cmu) (s : State) :
    State.packMask { s with cmu := x } = s.packMask := rfl
@[simp] theorem State.packMask_path (x : PathState) (s : State) :
    State.packMask { s with path := x } = s.packMask := rfl
@[simp] theorem State.packMask_gauge (x : Gauge) (s : State) :
    State.packMask { s with gauge := x } = s.packMask := rfl
@[simp] theorem State.announce_dockMask (i : Item) (l : Nat) (s : State) : (s.announce i l).dockMask = s.dockMask := rfl
@[simp] theorem State.dockMask_cdu (x : List Record) (s : State) :
    State.dockMask { s with cdu := x } = s.dockMask := rfl
@[simp] theorem State.dockMask_tiu (x : Tiu) (s : State) :
    State.dockMask { s with tiu := x } = s.dockMask := rfl
@[simp] theorem State.dockMask_liu (x : Liu) (s : State) :
    State.dockMask { s with liu := x } = s.dockMask := rfl
@[simp] theorem State.dockMask_ssc (x : Ssc) (s : State) :
    State.dockMask { s with ssc := x } = s.dockMask := rfl
@[simp] theorem State.dockMask_db (x : DockBudget) (s : State) :
    State.dockMask { s with db := x } = s.dockMask := rfl
@[simp] theorem State.dockMask_ccu (x : Ccu) (s : State) :
    State.dockMask { s with ccu := x } = s.dockMask := rfl

/-! ### The HANDLE -/

@[simp] theorem State.computeGrant_handleMask (p : Bool) (s : State) : (s.computeGrant p).handleMask = s.handleMask := by
  unfold State.computeGrant; (try dsimp only); (repeat' split) <;> first | rfl | (simp; done) | (simp; rfl)
@[simp] theorem State.formTarget_handleMask (s : State) : (s.formTarget).handleMask = s.handleMask := by
  unfold State.formTarget; (try dsimp only); (repeat' split) <;> first | rfl | (simp; done) | (simp; rfl)
@[simp] theorem State.headFollow_handleMask (s : State) : (s.headFollow).handleMask = s.handleMask := by
  unfold State.headFollow; (try dsimp only); (repeat' split) <;> first | rfl | (simp; done) | (simp; rfl)
@[simp] theorem State.leaveRun_handleMask (s : State) : (s.leaveRun).handleMask = s.handleMask := by
  unfold State.leaveRun; (try dsimp only); (repeat' split) <;> first | rfl | (simp; done) | (simp; rfl)
@[simp] theorem State.setMotor_handleMask (m : Motor) (s : State) : (s.setMotor m).handleMask = s.handleMask := by
  unfold State.setMotor; (try dsimp only); (repeat' split) <;> first | rfl | (simp; done) | (simp; rfl)
@[simp] theorem State.setAim_handleMask (a : Aim) (s : State) : (s.setAim a).handleMask = s.handleMask := by
  unfold State.setAim; (try dsimp only); (repeat' split) <;> first | rfl | (simp; done) | (simp; rfl)
@[simp] theorem State.coast_handleMask (a : Aim) (s : State) : (s.coast a).handleMask = s.handleMask := by
  unfold State.coast; (try dsimp only); (repeat' split) <;> first | rfl | (simp; done) | (simp; rfl)
@[simp] theorem State.spinCheck_handleMask (s : State) : (s.spinCheck).handleMask = s.handleMask := by
  unfold State.spinCheck; (try dsimp only); (repeat' split) <;> first | rfl | (simp; done) | (simp; rfl)
@[simp] theorem State.start_handleMask (s : State) : (s.start).handleMask = s.handleMask := by
  unfold State.start; (try dsimp only); (repeat' split) <;> first | rfl | (simp; done) | (simp; rfl)
@[simp] theorem State.restart_handleMask (s : State) : (s.restart).handleMask = s.handleMask := by
  unfold State.restart; (try dsimp only); (repeat' split) <;> first | rfl | (simp; done) | (simp; rfl)
@[simp] theorem State.catchChoice_handleMask (s : State) : (s.catchChoice).handleMask = s.handleMask := by
  unfold State.catchChoice; (try dsimp only); (repeat' split) <;> first | rfl | (simp; done) | (simp; rfl)
@[simp] theorem State.leaveHeld_handleMask (s : State) : (s.leaveHeld).handleMask = s.handleMask := by
  unfold State.leaveHeld; (try dsimp only); (repeat' split) <;> first | rfl | (simp; done) | (simp; rfl)
@[simp] theorem State.motorHold_handleMask (s : State) : (s.motorHold).handleMask = s.handleMask := by
  unfold State.motorHold; (try dsimp only); (repeat' split) <;> first | rfl | (simp; done) | (simp; rfl)
@[simp] theorem State.motorTrip_handleMask (s : State) : (s.motorTrip).handleMask = s.handleMask := by
  unfold State.motorTrip; (try dsimp only); (repeat' split) <;> first | rfl | (simp; done) | (simp; rfl)
@[simp] theorem State.motorFreed_handleMask (s : State) : (s.motorFreed).handleMask = s.handleMask := by
  unfold State.motorFreed; (try dsimp only); (repeat' split) <;> first | rfl | (simp; done) | (simp; rfl)
@[simp] theorem State.raiseHandle_handleMask (c : Code) (s : State) : (s.raiseHandle c).handleMask = s.handleMask := by
  unfold State.raiseHandle; (try dsimp only); (repeat' split) <;> first | rfl | (simp; done) | (simp; rfl)
@[simp] theorem State.removeHandle_handleMask (c : Code) (s : State) : (s.removeHandle c).handleMask = s.handleMask := by
  unfold State.removeHandle; (try dsimp only); (repeat' split) <;> first | rfl | (simp; done) | (simp; rfl)
@[simp] theorem State.clearHandle_handleMask (b : Block) (c : Code) (s : State) : (s.clearHandle b c).handleMask = s.handleMask := by
  unfold State.clearHandle; (try dsimp only); (repeat' split) <;> first | rfl | (simp; done) | (simp; rfl)
@[simp] theorem State.press_handleMask (s : State) : (s.press).handleMask = s.handleMask := by
  unfold State.press; (try dsimp only); (repeat' split) <;> first | rfl | (simp; done) | (simp; rfl)
@[simp] theorem State.motorRelease_handleMask (s : State) : (s.motorRelease).handleMask = s.handleMask := by
  unfold State.motorRelease; (try dsimp only); (repeat' split) <;> first | rfl | (simp; done) | (simp; rfl)
@[simp] theorem State.headRelease_handleMask (s : State) : (s.headRelease).handleMask = s.handleMask := by
  unfold State.headRelease; (try dsimp only); (repeat' split) <;> first | rfl | (simp; done) | (simp; rfl)
@[simp] theorem State.crossing_handleMask (s : State) : (s.crossing).handleMask = s.handleMask := by
  unfold State.crossing; (try dsimp only); (repeat' split) <;> first | rfl | (simp; done) | (simp; rfl)
@[simp] theorem State.speedLoop_handleMask (s : State) : (s.speedLoop).handleMask = s.handleMask := by
  unfold State.speedLoop; (try dsimp only); (repeat' split) <;> first | rfl | (simp; done) | (simp; rfl)
@[simp] theorem State.lock_handleMask (s : State) : (s.lock).handleMask = s.handleMask := by
  unfold State.lock; (try dsimp only); (repeat' split) <;> first | rfl | (simp; done) | (simp; rfl)
@[simp] theorem State.countValid_handleMask (s : State) : (s.countValid).handleMask = s.handleMask := by
  unfold State.countValid; (try dsimp only); (repeat' split) <;> first | rfl | (simp; done) | (simp; rfl)
@[simp] theorem State.zeroCross_handleMask (s : State) : (s.zeroCross).handleMask = s.handleMask := by
  unfold State.zeroCross; (try dsimp only); (repeat' split) <;> first | rfl | (simp; done) | (simp; rfl)
@[simp] theorem State.loseLock_handleMask (s : State) : (s.loseLock).handleMask = s.handleMask := by
  unfold State.loseLock; (try dsimp only); (repeat' split) <;> first | rfl | (simp; done) | (simp; rfl)
@[simp] theorem State.missCrossing_handleMask (s : State) : (s.missCrossing).handleMask = s.handleMask := by
  unfold State.missCrossing; (try dsimp only); (repeat' split) <;> first | rfl | (simp; done) | (simp; rfl)
@[simp] theorem State.speedFalls_handleMask (m : SpeedMark) (s : State) : (s.speedFalls m).handleMask = s.handleMask := by
  unfold State.speedFalls; (try dsimp only); (repeat' split) <;> first | rfl | (simp; done) | (simp; rfl)
@[simp] theorem State.busSample_handleMask (i : Nat) (s : State) : (s.busSample i).handleMask = s.handleMask := by
  unfold State.busSample; (try dsimp only); (repeat' split) <;> first | rfl | (simp; done) | (simp; rfl)
@[simp] theorem State.judgeHandleTemp_handleMask (t : Int) (s : State) : (s.judgeHandleTemp t).handleMask = s.handleMask := by
  unfold State.judgeHandleTemp; (try dsimp only); (repeat' split) <;> first | rfl | (simp; done) | (simp; rfl)
@[simp] theorem State.boostChanged_handleMask (b : Nat) (s : State) : (s.boostChanged b).handleMask = s.handleMask := by
  unfold State.boostChanged; (try dsimp only); (repeat' split) <;> first | rfl | (simp; done) | (simp; rfl)
@[simp] theorem State.windowClose_handleMask (s : State) : (s.windowClose).handleMask = s.handleMask := by
  unfold State.windowClose; (try dsimp only); (repeat' split) <;> first | rfl | (simp; done) | (simp; rfl)
@[simp] theorem State.modePressed_handleMask (s : State) : (s.modePressed).handleMask = s.handleMask := by
  unfold State.modePressed; (try dsimp only); (repeat' split) <;> first | rfl | (simp; done) | (simp; rfl)
@[simp] theorem State.startWindows_handleMask (s : State) : (s.startWindows).handleMask = s.handleMask := by
  unfold State.startWindows; (try dsimp only); (repeat' split) <;> first | rfl | (simp; done) | (simp; rfl)

/-! ### The PACK -/

@[simp] theorem State.packNumbers_packMask (s : State) : (s.packNumbers).packMask = s.packMask := by
  unfold State.packNumbers; (try dsimp only); (repeat' split) <;> first | rfl | (simp; done) | (simp; rfl)
@[simp] theorem State.setDsw_packMask (d : Dsw) (s : State) : (s.setDsw d).packMask = s.packMask := by
  unfold State.setDsw; (try dsimp only); (repeat' split) <;> first | rfl | (simp; done) | (simp; rfl)
@[simp] theorem State.cutSwitch_packMask (c : Code) (s : State) : (s.cutSwitch c).packMask = s.packMask := by
  unfold State.cutSwitch; (try dsimp only); (repeat' split) <;> first | rfl | (simp; done) | (simp; rfl)
@[simp] theorem State.freeSwitch_packMask (s : State) : (s.freeSwitch).packMask = s.packMask := by
  unfold State.freeSwitch; (try dsimp only); (repeat' split) <;> first | rfl | (simp; done) | (simp; rfl)
/-- What a judgement of a kept TRIP can change (R137). -/
theorem State.rejudge_frame (c : Code) (s : State) : s.rejudge c = { s with
    cdu := (s.rejudge c).cdu, tiu := (s.rejudge c).tiu, liu.tx.state := (s.rejudge c).liu.tx.state
    cmu.kept := (s.rejudge c).cmu.kept } := by
  unfold State.rejudge
  split
  · rw [State.raiseRec_frame]
  · rfl
/-- What a cause found gone can change (R99, R140): the list, and the note of what a dip kept. -/
theorem State.causeGone_frame (c : Code) (s : State) : s.causeGone c = { s with
    cdu := (s.causeGone c).cdu, cmu.kept := (s.causeGone c).cmu.kept } := by
  unfold State.causeGone
  split
  · rw [State.latchRec_frame]
  · rfl
@[simp] theorem State.rejudge_packMask (c : Code) (s : State) : (s.rejudge c).packMask = s.packMask := by
  rw [State.rejudge_frame]; rfl
@[simp] theorem State.causeGone_packMask (c : Code) (s : State) : (s.causeGone c).packMask = s.packMask := by
  rw [State.causeGone_frame]; rfl
@[simp] theorem State.judgeCellLow_packMask (s : State) : (s.judgeCellLow).packMask = s.packMask := by
  unfold State.judgeCellLow; (try dsimp only); (repeat' split) <;> first | rfl | (simp; done) | (simp; rfl)
@[simp] theorem State.packLite_packMask (s : State) : (s.packLite).packMask = s.packMask := by
  unfold State.packLite; (try dsimp only); (repeat' split) <;> first | rfl | (simp; done) | (simp; rfl)
@[simp] theorem State.cswFollow_packMask (s : State) : (s.cswFollow).packMask = s.packMask := by
  unfold State.cswFollow; (try dsimp only); (repeat' split) <;> first | rfl | (simp; done) | (simp; rfl)
@[simp] theorem State.dropScoped_packMask (c : Code) (s : State) : (s.dropScoped c).packMask = s.packMask := by
  unfold State.dropScoped; (try dsimp only); (repeat' split) <;> first | rfl | (simp; done) | (simp; rfl)
@[simp] theorem State.setPath_packMask (p : PathField) (s : State) : (s.setPath p).packMask = s.packMask := by
  unfold State.setPath; (try dsimp only); (repeat' split) <;> first | rfl | (simp; done) | (simp; rfl)
@[simp] theorem State.makeRestingChoice_packMask (s : State) : (s.makeRestingChoice).packMask = s.packMask := by
  unfold State.makeRestingChoice; (try dsimp only); (repeat' split) <;> first | rfl | (simp; done) | (simp; rfl)
@[simp] theorem State.leaveAccept_packMask (s : State) : (s.leaveAccept).packMask = s.packMask := by
  unfold State.leaveAccept; (try dsimp only); (repeat' split) <;> first | rfl | (simp; done) | (simp; rfl)
@[simp] theorem State.limitFollow_packMask (b : Nat) (s : State) : (s.limitFollow b).packMask = s.packMask := by
  unfold State.limitFollow; (try dsimp only); (repeat' split) <;> first | rfl | (simp; done) | (simp; rfl)
@[simp] theorem State.computePack_packMask (s : State) : (s.computePack).packMask = s.packMask := by
  unfold State.computePack; (try dsimp only); (repeat' split) <;> first | rfl | (simp; done) | (simp; rfl)
@[simp] theorem State.raisePack_packMask (c : Code) (s : State) : (s.raisePack c).packMask = s.packMask := by
  unfold State.raisePack; (try dsimp only); (repeat' split) <;> first | rfl | (simp; done) | (simp; rfl)
@[simp] theorem State.raiseFresh_packMask (c : Code) (s : State) : (s.raiseFresh c).packMask = s.packMask := by
  unfold State.raiseFresh; (try dsimp only); (repeat' split) <;> first | rfl | (simp; done) | (simp; rfl)
@[simp] theorem State.removePack_packMask (c : Code) (s : State) : (s.removePack c).packMask = s.packMask := by
  unfold State.removePack; (try dsimp only); (repeat' split) <;> first | rfl | (simp; done) | (simp; rfl)
@[simp] theorem State.clearPack_packMask (b : Block) (c : Code) (s : State) : (s.clearPack b c).packMask = s.packMask := by
  unfold State.clearPack; (try dsimp only); (repeat' split) <;> first | rfl | (simp; done) | (simp; rfl)
@[simp] theorem State.socFollow_packMask (b : Nat) (s : State) : (s.socFollow b).packMask = s.packMask := by
  unfold State.socFollow; (try dsimp only); (repeat' split) <;> first | rfl | (simp; done) | (simp; rfl)
@[simp] theorem State.nextRevision_packMask (s : State) : (s.nextRevision).packMask = s.packMask := by
  unfold State.nextRevision; (try dsimp only); (repeat' split) <;> first | rfl | (simp; done) | (simp; rfl)
@[simp] theorem State.countCycle_packMask (s : State) : (s.countCycle).packMask = s.packMask := by
  unfold State.countCycle; (try dsimp only); (repeat' split) <;> first | rfl | (simp; done) | (simp; rfl)
@[simp] theorem State.grant_packMask (s : State) : (s.grant).packMask = s.packMask := by
  unfold State.grant; (try dsimp only); (repeat' split) <;> first | rfl | (simp; done) | (simp; rfl)
@[simp] theorem State.chargeStep_packMask (s : State) : (s.chargeStep).packMask = s.packMask := by
  unfold State.chargeStep; (try dsimp only); (repeat' split) <;> first | rfl | (simp; done) | (simp; rfl)
@[simp] theorem State.gaugeSample_packMask (i : Int) (s : State) : (s.gaugeSample i).packMask = s.packMask := by
  unfold State.gaugeSample; (try dsimp only); (repeat' split) <;> first | rfl | (simp; done) | (simp; rfl)
@[simp] theorem State.learn_packMask (s : State) : (s.learn).packMask = s.packMask := by
  unfold State.learn; (try dsimp only); (repeat' split) <;> first | rfl | (simp; done) | (simp; rfl)
@[simp] theorem State.emptyAnchor_packMask (s : State) : (s.emptyAnchor).packMask = s.packMask := by
  unfold State.emptyAnchor; (try dsimp only); (repeat' split) <;> first | rfl | (simp; done) | (simp; rfl)
@[simp] theorem State.decideFull_packMask (s : State) : (s.decideFull).packMask = s.packMask := by
  unfold State.decideFull; (try dsimp only); (repeat' split) <;> first | rfl | (simp; done) | (simp; rfl)
@[simp] theorem State.readCells_packMask (v : List Nat) (s : State) : (s.readCells v).packMask = s.packMask := by
  unfold State.readCells; (try dsimp only); (repeat' split) <;> first | rfl | (simp; done) | (simp; rfl)
@[simp] theorem State.judgeCellHigh_packMask (s : State) : (s.judgeCellHigh).packMask = s.packMask := by
  unfold State.judgeCellHigh; (try dsimp only); (repeat' split) <;> first | rfl | (simp; done) | (simp; rfl)
@[simp] theorem State.judgeCellLowWarn_packMask (s : State) : (s.judgeCellLowWarn).packMask = s.packMask := by
  unfold State.judgeCellLowWarn; (try dsimp only); (repeat' split) <;> first | rfl | (simp; done) | (simp; rfl)
@[simp] theorem State.judgeImbalance_packMask (s : State) : (s.judgeImbalance).packMask = s.packMask := by
  unfold State.judgeImbalance; (try dsimp only); (repeat' split) <;> first | rfl | (simp; done) | (simp; rfl)
@[simp] theorem State.judgeOverrun_packMask (s : State) : (s.judgeOverrun).packMask = s.packMask := by
  unfold State.judgeOverrun; (try dsimp only); (repeat' split) <;> first | rfl | (simp; done) | (simp; rfl)
@[simp] theorem State.judgeFull_packMask (s : State) : (s.judgeFull).packMask = s.packMask := by
  unfold State.judgeFull; (try dsimp only); (repeat' split) <;> first | rfl | (simp; done) | (simp; rfl)
@[simp] theorem State.reviseSet_packMask (s : State) : (s.reviseSet).packMask = s.packMask := by
  unfold State.reviseSet; (try dsimp only); (repeat' split) <;> first | rfl | (simp; done) | (simp; rfl)
@[simp] theorem State.sweepDone_packMask (v : List Nat) (s : State) : (s.sweepDone v).packMask = s.packMask := by
  unfold State.sweepDone; (try dsimp only); (repeat' split) <;> first | rfl | (simp; done) | (simp; rfl)
@[simp] theorem State.overdrawSample_packMask (s : State) : (s.overdrawSample).packMask = s.packMask := by
  unfold State.overdrawSample; (try dsimp only); (repeat' split) <;> first | rfl | (simp; done) | (simp; rfl)
@[simp] theorem State.shortSample_packMask (s : State) : (s.shortSample).packMask = s.packMask := by
  unfold State.shortSample; (try dsimp only); (repeat' split) <;> first | rfl | (simp; done) | (simp; rfl)
@[simp] theorem State.packSample_packMask (i : Int) (s : State) : (s.packSample i).packMask = s.packMask := by
  unfold State.packSample; (try dsimp only); (repeat' split) <;> first | rfl | (simp; done) | (simp; rfl)
@[simp] theorem State.packTemp_packMask (t : Int) (s : State) : (s.packTemp t).packMask = s.packMask := by
  unfold State.packTemp; (try dsimp only); (repeat' split) <;> first | rfl | (simp; done) | (simp; rfl)
@[simp] theorem State.judgeExcess_packMask (d : DockStatus) (s : State) : (s.judgeExcess d).packMask = s.packMask := by
  unfold State.judgeExcess; (try dsimp only); (repeat' split) <;> first | rfl | (simp; done) | (simp; rfl)
@[simp] theorem State.pathStatus_packMask (d : DockStatus) (s : State) : (s.pathStatus d).packMask = s.packMask := by
  unfold State.pathStatus; (try dsimp only); (repeat' split) <;> first | rfl | (simp; done) | (simp; rfl)
@[simp] theorem State.computeAfter_packMask (b : Nat) (s : State) : (s.computeAfter b).packMask = s.packMask := by
  unfold State.computeAfter; (try dsimp only); (repeat' split) <;> first | rfl | (simp; done) | (simp; rfl)
@[simp] theorem State.moveDsw_packMask (d : Dsw) (s : State) : (s.moveDsw d).packMask = s.packMask := by
  unfold State.moveDsw; (try dsimp only); (repeat' split) <;> first | rfl | (simp; done) | (simp; rfl)
@[simp] theorem State.drawAtPack_packMask (d : Draw) (s : State) : (s.drawAtPack d).packMask = s.packMask := by
  unfold State.drawAtPack; (try dsimp only); (repeat' split) <;> first | rfl | (simp; done) | (simp; rfl)

/-! ### The DOCK -/

@[simp] theorem State.dockCompute_dockMask (p : Bool) (s : State) : (s.dockCompute p).dockMask = s.dockMask := by
  unfold State.dockCompute; (try dsimp only); (repeat' split) <;> first | rfl | (simp; done) | (simp; rfl)
@[simp] theorem State.withdrawState_dockMask (s : State) : (s.withdrawState).dockMask = s.dockMask := by
  unfold State.withdrawState; (try dsimp only); (repeat' split) <;> first | rfl | (simp; done) | (simp; rfl)
@[simp] theorem State.undockedDoze_dockMask (s : State) : (s.undockedDoze).dockMask = s.dockMask := by
  unfold State.undockedDoze; (try dsimp only); (repeat' split) <;> first | rfl | (simp; done) | (simp; rfl)
@[simp] theorem State.endPassMode_dockMask (s : State) : (s.endPassMode).dockMask = s.dockMask := by
  unfold State.endPassMode; (try dsimp only); (repeat' split) <;> first | rfl | (simp; done) | (simp; rfl)
@[simp] theorem State.setRun_dockMask (r : RunState) (s : State) : (s.setRun r).dockMask = s.dockMask := by
  unfold State.setRun; (try dsimp only); (repeat' split) <;> first | rfl | (simp; done) | (simp; rfl)
@[simp] theorem State.suspendTest_dockMask (s : State) : (s.suspendTest).dockMask = s.dockMask := by
  unfold State.suspendTest; (try dsimp only); (repeat' split) <;> first | rfl | (simp; done) | (simp; rfl)
@[simp] theorem State.starveFollow_dockMask (s : State) : (s.starveFollow).dockMask = s.dockMask := by
  unfold State.starveFollow; (try dsimp only); (repeat' split) <;> first | rfl | (simp; done) | (simp; rfl)
@[simp] theorem State.converterFollow_dockMask (s : State) : (s.converterFollow).dockMask = s.dockMask := by
  unfold State.converterFollow; (try dsimp only); (repeat' split) <;> first | rfl | (simp; done) | (simp; rfl)
@[simp] theorem State.dockFollow_dockMask (s : State) : (s.dockFollow).dockMask = s.dockMask := by
  unfold State.dockFollow; (try dsimp only); (repeat' split) <;> first | rfl | (simp; done) | (simp; rfl)
@[simp] theorem State.enterOffer_dockMask (s : State) : (s.enterOffer).dockMask = s.dockMask := by
  unfold State.enterOffer; (try dsimp only); (repeat' split) <;> first | rfl | (simp; done) | (simp; rfl)
@[simp] theorem State.offerTest_dockMask (s : State) : (s.offerTest).dockMask = s.dockMask := by
  unfold State.offerTest; (try dsimp only); (repeat' split) <;> first | rfl | (simp; done) | (simp; rfl)
@[simp] theorem State.enterIdle_dockMask (s : State) : (s.enterIdle).dockMask = s.dockMask := by
  unfold State.enterIdle; (try dsimp only); (repeat' split) <;> first | rfl | (simp; done) | (simp; rfl)
@[simp] theorem State.formCredit_dockMask (s : State) : (s.formCredit).dockMask = s.dockMask := by
  unfold State.formCredit; (try dsimp only); (repeat' split) <;> first | rfl | (simp; done) | (simp; rfl)
@[simp] theorem State.startRun_dockMask (s : State) : (s.startRun).dockMask = s.dockMask := by
  unfold State.startRun; (try dsimp only); (repeat' split) <;> first | rfl | (simp; done) | (simp; rfl)
@[simp] theorem State.endRun_dockMask (c : EndCause) (s : State) : (s.endRun c).dockMask = s.dockMask := by
  unfold State.endRun; (try dsimp only); (repeat' split) <;> first | rfl | (simp; done) | (simp; rfl)
@[simp] theorem State.creditEvent_dockMask (s : State) : (s.creditEvent).dockMask = s.dockMask := by
  unfold State.creditEvent; (try dsimp only); (repeat' split) <;> first | rfl | (simp; done) | (simp; rfl)
@[simp] theorem State.dockTrip_dockMask (s : State) : (s.dockTrip).dockMask = s.dockMask := by
  unfold State.dockTrip; (try dsimp only); (repeat' split) <;> first | rfl | (simp; done) | (simp; rfl)
@[simp] theorem State.raiseDock_dockMask (c : Code) (s : State) : (s.raiseDock c).dockMask = s.dockMask := by
  unfold State.raiseDock; (try dsimp only); (repeat' split) <;> first | rfl | (simp; done) | (simp; rfl)
@[simp] theorem State.removeDock_dockMask (c : Code) (s : State) : (s.removeDock c).dockMask = s.dockMask := by
  unfold State.removeDock; (try dsimp only); (repeat' split) <;> first | rfl | (simp; done) | (simp; rfl)
@[simp] theorem State.clearDock_dockMask (b : Block) (c : Code) (s : State) : (s.clearDock b c).dockMask = s.dockMask := by
  unfold State.clearDock; (try dsimp only); (repeat' split) <;> first | rfl | (simp; done) | (simp; rfl)
@[simp] theorem State.packEntryAtDock_dockMask (r : Bool) (s : State) : (s.packEntryAtDock r).dockMask = s.dockMask := by
  unfold State.packEntryAtDock; (try dsimp only); (repeat' split) <;> first | rfl | (simp; done) | (simp; rfl)
@[simp] theorem State.fieldInRun_dockMask (s : State) : (s.fieldInRun).dockMask = s.dockMask := by
  unfold State.fieldInRun; (try dsimp only); (repeat' split) <;> first | rfl | (simp; done) | (simp; rfl)
@[simp] theorem State.statusInRun_dockMask (p : PackStatus) (s : State) : (s.statusInRun p).dockMask = s.dockMask := by
  unfold State.statusInRun; (try dsimp only); (repeat' split) <;> first | rfl | (simp; done) | (simp; rfl)
@[simp] theorem State.statusInOffer_dockMask (s : State) : (s.statusInOffer).dockMask = s.dockMask := by
  unfold State.statusInOffer; (try dsimp only); (repeat' split) <;> first | rfl | (simp; done) | (simp; rfl)
@[simp] theorem State.statusAtDock_dockMask (s : State) : (s.statusAtDock).dockMask = s.dockMask := by
  unfold State.statusAtDock; (try dsimp only); (repeat' split) <;> first | rfl | (simp; done) | (simp; rfl)
@[simp] theorem State.slotAtDock_dockMask (s : State) : (s.slotAtDock).dockMask = s.dockMask := by
  unfold State.slotAtDock; (try dsimp only); (repeat' split) <;> first | rfl | (simp; done) | (simp; rfl)
@[simp] theorem State.countDelivered_dockMask (i : Nat) (s : State) : (s.countDelivered i).dockMask = s.dockMask := by
  unfold State.countDelivered; (try dsimp only); (repeat' split) <;> first | rfl | (simp; done) | (simp; rfl)
@[simp] theorem State.judgeOvervoltage_dockMask (s : State) : (s.judgeOvervoltage).dockMask = s.dockMask := by
  unfold State.judgeOvervoltage; (try dsimp only); (repeat' split) <;> first | rfl | (simp; done) | (simp; rfl)
@[simp] theorem State.judgeMode_dockMask (s : State) : (s.judgeMode).dockMask = s.dockMask := by
  unfold State.judgeMode; (try dsimp only); (repeat' split) <;> first | rfl | (simp; done) | (simp; rfl)
@[simp] theorem State.judgeSupply_dockMask (o : Bool) (s : State) : (s.judgeSupply o).dockMask = s.dockMask := by
  unfold State.judgeSupply; (try dsimp only); (repeat' split) <;> first | rfl | (simp; done) | (simp; rfl)
@[simp] theorem State.dockSample_dockMask (a b c : Nat) (s : State) : (s.dockSample a b c).dockMask = s.dockMask := by
  unfold State.dockSample; (try dsimp only); (repeat' split) <;> first | rfl | (simp; done) | (simp; rfl)

end Sys2Proof.Machine
end

