-- ==== Sys2Proof/Laws/Frames.lean ====
section
/-! SUPPORT. Every operation of an event keeps the queue, the supply, the identity, the settings and the time:
`(f s).eventMask = s.eventMask`. -/

namespace Sys2Proof.Machine

set_option linter.unusedTactic false
set_option linter.unreachableTactic false
set_option linter.unnecessarySeqFocus false

/-! ### Updates and the role's operations under the event mask -/

@[simp] theorem State.eventMask_ssc (x : Ssc) (s : State) : State.eventMask { s with ssc := x } = s.eventMask := rfl
@[simp] theorem State.eventMask_liu (x : Liu) (s : State) : State.eventMask { s with liu := x } = s.eventMask := rfl
@[simp] theorem State.eventMask_pv (x : PeerView) (s : State) : State.eventMask { s with pv := x } = s.eventMask := rfl
@[simp] theorem State.eventMask_cdu (x : List Record) (s : State) : State.eventMask { s with cdu := x } = s.eventMask := rfl
@[simp] theorem State.eventMask_tiu (x : Tiu) (s : State) : State.eventMask { s with tiu := x } = s.eventMask := rfl
@[simp] theorem State.eventMask_hb (x : HandleBudget) (s : State) : State.eventMask { s with hb := x } = s.eventMask := rfl
@[simp] theorem State.eventMask_pb (x : PackBudget) (s : State) : State.eventMask { s with pb := x } = s.eventMask := rfl
@[simp] theorem State.eventMask_db (x : DockBudget) (s : State) : State.eventMask { s with db := x } = s.eventMask := rfl
@[simp] theorem State.eventMask_mdu (x : Mdu) (s : State) : State.eventMask { s with mdu := x } = s.eventMask := rfl
@[simp] theorem State.eventMask_head (x : Head) (s : State) : State.eventMask { s with head := x } = s.eventMask := rfl
@[simp] theorem State.eventMask_dsu (x : Dsu) (s : State) : State.eventMask { s with dsu := x } = s.eventMask := rfl
@[simp] theorem State.eventMask_cmu (x : Cmu) (s : State) : State.eventMask { s with cmu := x } = s.eventMask := rfl
@[simp] theorem State.eventMask_gauge (x : Gauge) (s : State) : State.eventMask { s with gauge := x } = s.eventMask := rfl
@[simp] theorem State.eventMask_path (x : PathState) (s : State) : State.eventMask { s with path := x } = s.eventMask := rfl
@[simp] theorem State.eventMask_ccu (x : Ccu) (s : State) : State.eventMask { s with ccu := x } = s.eventMask := rfl
@[simp] theorem State.announce_eventMask (i : Item) (l : Nat) (s : State) : (s.announce i l).eventMask = s.eventMask := rfl
@[simp] theorem State.countAccepted_eventMask (t : Half) (s : State) : (s.countAccepted t).eventMask = s.eventMask := rfl
@[simp] theorem State.countRejected_eventMask (s : State) : s.countRejected.eventMask = s.eventMask := rfl
@[simp] theorem State.requestWakePulse_eventMask (s : State) : s.requestWakePulse.eventMask = s.eventMask := rfl
@[simp] theorem State.requestState_eventMask (u : Bool) (s : State) : (s.requestState u).eventMask = s.eventMask :=
  State.eventMask_of_handle (State.requestState_handleMask u s)
@[simp] theorem State.requestProfile_eventMask (s : State) : (s.requestProfile).eventMask = s.eventMask :=
  State.eventMask_of_handle (State.requestProfile_handleMask s)
@[simp] theorem State.requestReply_eventMask (r : BitVec 4) (i : Byte) (s : State) : (s.requestReply r i).eventMask = s.eventMask :=
  State.eventMask_of_handle (State.requestReply_handleMask r i s)
@[simp] theorem State.latchRec_eventMask (b : Block) (c : Code) (s : State) : (s.latchRec b c).eventMask = s.eventMask :=
  State.eventMask_of_handle (State.latchRec_handleMask b c s)
@[simp] theorem State.clearRec_eventMask (b : Block) (c : Code) (s : State) : (s.clearRec b c).eventMask = s.eventMask :=
  State.eventMask_of_handle (State.clearRec_handleMask b c s)
@[simp] theorem State.raiseRec_eventMask (c : Code) (s : State) : (s.raiseRec c).eventMask = s.eventMask :=
  State.eventMask_of_handle (State.raiseRec_handleMask c s)
@[simp] theorem State.wakeCause_eventMask (s : State) : (s.wakeCause).eventMask = s.eventMask :=
  State.eventMask_of_pack (State.wakeCause_packMask s)
@[simp] theorem State.askWake_eventMask (s : State) : (s.askWake).eventMask = s.eventMask :=
  State.eventMask_of_pack (State.askWake_packMask s)
@[simp] theorem State.raiseHandle_eventMask (c : Code) (s : State) : (s.raiseHandle c).eventMask = s.eventMask :=
  State.eventMask_of_handle (State.raiseHandle_handleMask c s)
@[simp] theorem State.removeHandle_eventMask (c : Code) (s : State) : (s.removeHandle c).eventMask = s.eventMask :=
  State.eventMask_of_handle (State.removeHandle_handleMask c s)
@[simp] theorem State.clearHandle_eventMask (b : Block) (c : Code) (s : State) : (s.clearHandle b c).eventMask = s.eventMask :=
  State.eventMask_of_handle (State.clearHandle_handleMask b c s)
@[simp] theorem State.raisePack_eventMask (c : Code) (s : State) : (s.raisePack c).eventMask = s.eventMask :=
  State.eventMask_of_pack (State.raisePack_packMask c s)
@[simp] theorem State.removePack_eventMask (c : Code) (s : State) : (s.removePack c).eventMask = s.eventMask :=
  State.eventMask_of_pack (State.removePack_packMask c s)
@[simp] theorem State.raiseDock_eventMask (c : Code) (s : State) : (s.raiseDock c).eventMask = s.eventMask :=
  State.eventMask_of_dock (State.raiseDock_dockMask c s)
@[simp] theorem State.removeDock_eventMask (c : Code) (s : State) : (s.removeDock c).eventMask = s.eventMask :=
  State.eventMask_of_dock (State.removeDock_dockMask c s)
@[simp] theorem State.computeGrant_eventMask (p : Bool) (s : State) : (s.computeGrant p).eventMask = s.eventMask :=
  State.eventMask_of_handle (State.computeGrant_handleMask p s)
@[simp] theorem State.spinCheck_eventMask (s : State) : (s.spinCheck).eventMask = s.eventMask :=
  State.eventMask_of_handle (State.spinCheck_handleMask s)
@[simp] theorem State.boostChanged_eventMask (b : Nat) (s : State) : (s.boostChanged b).eventMask = s.eventMask :=
  State.eventMask_of_handle (State.boostChanged_handleMask b s)
@[simp] theorem State.startWindows_eventMask (s : State) : (s.startWindows).eventMask = s.eventMask :=
  State.eventMask_of_handle (State.startWindows_handleMask s)
@[simp] theorem State.press_eventMask (s : State) : (s.press).eventMask = s.eventMask :=
  State.eventMask_of_handle (State.press_handleMask s)
@[simp] theorem State.modePressed_eventMask (s : State) : (s.modePressed).eventMask = s.eventMask :=
  State.eventMask_of_handle (State.modePressed_handleMask s)
@[simp] theorem State.leaveAccept_eventMask (s : State) : (s.leaveAccept).eventMask = s.eventMask :=
  State.eventMask_of_pack (State.leaveAccept_packMask s)
@[simp] theorem State.makeRestingChoice_eventMask (s : State) : (s.makeRestingChoice).eventMask = s.eventMask :=
  State.eventMask_of_pack (State.makeRestingChoice_packMask s)
@[simp] theorem State.drawAtPack_eventMask (d : Draw) (s : State) : (s.drawAtPack d).eventMask = s.eventMask :=
  State.eventMask_of_pack (State.drawAtPack_packMask d s)
@[simp] theorem State.pathStatus_eventMask (d : DockStatus) (s : State) : (s.pathStatus d).eventMask = s.eventMask :=
  State.eventMask_of_pack (State.pathStatus_packMask d s)
@[simp] theorem State.dockFollow_eventMask (s : State) : (s.dockFollow).eventMask = s.eventMask :=
  State.eventMask_of_dock (State.dockFollow_dockMask s)
@[simp] theorem State.packEntryAtDock_eventMask (r : Bool) (s : State) : (s.packEntryAtDock r).eventMask = s.eventMask :=
  State.eventMask_of_dock (State.packEntryAtDock_dockMask r s)
@[simp] theorem State.statusAtDock_eventMask (s : State) : (s.statusAtDock).eventMask = s.eventMask :=
  State.eventMask_of_dock (State.statusAtDock_dockMask s)
@[simp] theorem State.slotAtDock_eventMask (s : State) : (s.slotAtDock).eventMask = s.eventMask :=
  State.eventMask_of_dock (State.slotAtDock_dockMask s)

/-! ### Notices, doze and the line -/

@[simp] theorem State.raiseAny_eventMask (c : Code) (s : State) : (s.raiseAny c).eventMask = s.eventMask := by
  unfold State.raiseAny; (try dsimp only); (repeat' split) <;> first | rfl | (simp; done) | (simp; rfl)
@[simp] theorem State.removeAny_eventMask (c : Code) (s : State) : (s.removeAny c).eventMask = s.eventMask := by
  unfold State.removeAny; (try dsimp only); (repeat' split) <;> first | rfl | (simp; done) | (simp; rfl)
@[simp] theorem State.clearAny_eventMask (b : Block) (c : Code) (s : State) : (s.clearAny b c).eventMask = s.eventMask := by
  unfold State.clearAny; (try dsimp only); (repeat' split) <;> first | rfl | (simp; done) | (simp; rfl)
@[simp] theorem State.roleClash_eventMask (s : State) : (s.roleClash).eventMask = s.eventMask := by
  unfold State.roleClash; (try dsimp only); (repeat' split) <;> first | rfl | (simp; done) | (simp; rfl)
@[simp] theorem State.ownRole_eventMask (s : State) : (s.ownRole).eventMask = s.eventMask := by
  unfold State.ownRole; (try dsimp only); (repeat' split) <;> first | rfl | (simp; done) | (simp; rfl)
@[simp] theorem State.dropSlot_eventMask (s : State) : (s.dropSlot).eventMask = s.eventMask := by
  unfold State.dropSlot; (try dsimp only); (repeat' split) <;> first | rfl | (simp; done) | (simp; rfl)
@[simp] theorem State.mirror_eventMask (s : State) : (s.mirror).eventMask = s.eventMask := by
  unfold State.mirror; (try dsimp only); (repeat' split) <;> first | rfl | (simp; done) | (simp; rfl)
@[simp] theorem State.packLostFollow_eventMask (s : State) : (s.packLostFollow).eventMask = s.eventMask := by
  unfold State.packLostFollow; (try dsimp only); (repeat' split) <;> first | rfl | (simp; done) | (simp; rfl)
@[simp] theorem State.endWakeWait_eventMask (s : State) : (s.endWakeWait).eventMask = s.eventMask := by
  unfold State.endWakeWait; (try dsimp only); (repeat' split) <;> first | rfl | (simp; done) | (simp; rfl)
@[simp] theorem State.packAtHandle_eventMask (f : Freshness) (b : Bool) (s : State) : (s.packAtHandle f b).eventMask = s.eventMask := by
  unfold State.packAtHandle; (try dsimp only); (repeat' split) <;> first | rfl | (simp; done) | (simp; rfl)
@[simp] theorem State.dockEntryAtPack_eventMask (f : Freshness) (b : Bool) (s : State) : (s.dockEntryAtPack f b).eventMask = s.eventMask := by
  unfold State.dockEntryAtPack; (try dsimp only); (repeat' split) <;> first | rfl | (simp; done) | (simp; rfl)
@[simp] theorem State.packChanged_eventMask (f : Freshness) (s : State) : (s.packChanged f).eventMask = s.eventMask := by
  unfold State.packChanged; (try dsimp only); (repeat' split) <;> first | rfl | (simp; done) | (simp; rfl)
@[simp] theorem State.dockChanged_eventMask (f : Freshness) (s : State) : (s.dockChanged f).eventMask = s.eventMask := by
  unfold State.dockChanged; (try dsimp only); (repeat' split) <;> first | rfl | (simp; done) | (simp; rfl)
@[simp] theorem State.handleChanged_eventMask (f : Freshness) (s : State) : (s.handleChanged f).eventMask = s.eventMask := by
  unfold State.handleChanged; (try dsimp only); (repeat' split) <;> first | rfl | (simp; done) | (simp; rfl)
@[simp] theorem State.moveEntries_eventMask (f : PeerEntry PackStatus → PeerEntry PackStatus) (g : PeerEntry Draw → PeerEntry Draw)
    (k : PeerEntry DockStatus → PeerEntry DockStatus) (s : State) : (s.moveEntries f g k).eventMask = s.eventMask := by
  unfold State.moveEntries; (try dsimp only); (repeat' split) <;> first | rfl | (simp; done) | (simp; rfl)
@[simp] theorem State.ageEntries_eventMask (s : State) : (s.ageEntries).eventMask = s.eventMask := by
  unfold State.ageEntries; (try dsimp only); (repeat' split) <;> first | rfl | (simp; done) | (simp; rfl)
@[simp] theorem State.wakeEntries_eventMask (s : State) : (s.wakeEntries).eventMask = s.eventMask := by
  unfold State.wakeEntries; (try dsimp only); (repeat' split) <;> first | rfl | (simp; done) | (simp; rfl)
@[simp] theorem State.takeSoc_eventMask (s : State) : (s.takeSoc).eventMask = s.eventMask := by
  unfold State.takeSoc; (try dsimp only); (repeat' split) <;> first | rfl | (simp; done) | (simp; rfl)
@[simp] theorem State.filePackStatus_eventMask (h : Sender) (n : PackStatus) (s : State) : (s.filePackStatus h n).eventMask = s.eventMask := by
  unfold State.filePackStatus; (try dsimp only); (repeat' split) <;> first | rfl | (simp; done) | (simp; rfl)
@[simp] theorem State.acceptPackStatus_eventMask (h : Sender) (n : PackStatus) (s : State) : (s.acceptPackStatus h n).eventMask = s.eventMask := by
  unfold State.acceptPackStatus; (try dsimp only); (repeat' split) <;> first | rfl | (simp; done) | (simp; rfl)
@[simp] theorem State.fileProfile_eventMask (h : Sender) (n : PackProfile) (s : State) : (s.fileProfile h n).eventMask = s.eventMask := by
  unfold State.fileProfile; (try dsimp only); (repeat' split) <;> first | rfl | (simp; done) | (simp; rfl)
@[simp] theorem State.acceptProfile_eventMask (h : Sender) (n : PackProfile) (s : State) : (s.acceptProfile h n).eventMask = s.eventMask := by
  unfold State.acceptProfile; (try dsimp only); (repeat' split) <;> first | rfl | (simp; done) | (simp; rfl)
@[simp] theorem State.fileDraw_eventMask (h : Sender) (n : Draw) (s : State) : (s.fileDraw h n).eventMask = s.eventMask := by
  unfold State.fileDraw; (try dsimp only); (repeat' split) <;> first | rfl | (simp; done) | (simp; rfl)
@[simp] theorem State.acceptDraw_eventMask (h : Sender) (n : Draw) (s : State) : (s.acceptDraw h n).eventMask = s.eventMask := by
  unfold State.acceptDraw; (try dsimp only); (repeat' split) <;> first | rfl | (simp; done) | (simp; rfl)
@[simp] theorem State.fileDockStatus_eventMask (h : Sender) (n : DockStatus) (s : State) : (s.fileDockStatus h n).eventMask = s.eventMask := by
  unfold State.fileDockStatus; (try dsimp only); (repeat' split) <;> first | rfl | (simp; done) | (simp; rfl)
@[simp] theorem State.acceptDockStatus_eventMask (h : Sender) (n : DockStatus) (s : State) : (s.acceptDockStatus h n).eventMask = s.eventMask := by
  unfold State.acceptDockStatus; (try dsimp only); (repeat' split) <;> first | rfl | (simp; done) | (simp; rfl)
@[simp] theorem State.acceptProbe_eventMask (h : Sender) (x : Target) (r : BitVec 4) (i : Byte) (s : State) : (s.acceptProbe h x r i).eventMask = s.eventMask := by
  unfold State.acceptProbe; (try dsimp only); (repeat' split) <;> first | rfl | (simp; done) | (simp; rfl)
@[simp] theorem State.zeroCounters_eventMask (s : State) : (s.zeroCounters).eventMask = s.eventMask := by
  unfold State.zeroCounters; (try dsimp only); (repeat' split) <;> first | rfl | (simp; done) | (simp; rfl)
@[simp] theorem State.releaseLatched_eventMask (c : Code) (s : State) : (s.releaseLatched c).eventMask = s.eventMask := by
  unfold State.releaseLatched; (try dsimp only); (repeat' split) <;> first | rfl | (simp; done) | (simp; rfl)

/-- A service release is a chain of releases (R142). -/
@[simp] theorem State.serviceRelease_eventMask (s : State) : s.serviceRelease.eventMask = s.eventMask := by
  unfold State.serviceRelease
  generalize latchedCodes s.cdu = l
  induction l generalizing s with
  | nil => rfl
  | cons c l ih => rw [List.foldl_cons, ih, State.releaseLatched_eventMask]

@[simp] theorem State.clearAction_eventMask (a : BitVec 3) (s : State) : (s.clearAction a).eventMask = s.eventMask := by
  unfold State.clearAction; (try dsimp only); (repeat' split) <;> first | rfl | (simp; done) | (simp; rfl)
@[simp] theorem State.acceptClear_eventMask (h : Sender) (x : Target) (a : BitVec 3) (s : State) : (s.acceptClear h x a).eventMask = s.eventMask := by
  unfold State.acceptClear; (try dsimp only); (repeat' split) <;> first | rfl | (simp; done) | (simp; rfl)
@[simp] theorem State.acceptOther_eventMask (h : Sender) (s : State) : (s.acceptOther h).eventMask = s.eventMask := by
  unfold State.acceptOther; (try dsimp only); (repeat' split) <;> first | rfl | (simp; done) | (simp; rfl)
@[simp] theorem State.route_eventMask (r : Received) (s : State) : (s.route r).eventMask = s.eventMask := by
  unfold State.route; (try dsimp only); (repeat' split) <;> first | rfl | (simp; done) | (simp; rfl)
@[simp] theorem State.dozeEntry_eventMask (s : State) : (s.dozeEntry).eventMask = s.eventMask := by
  unfold State.dozeEntry; (try dsimp only); (repeat' split) <;> first | rfl | (simp; done) | (simp; rfl)
@[simp] theorem State.wakeTimers_eventMask (s : State) : (s.wakeTimers).eventMask = s.eventMask := by
  unfold State.wakeTimers; (try dsimp only); (repeat' split) <;> first | rfl | (simp; done) | (simp; rfl)
@[simp] theorem State.dozeFollow_eventMask (s : State) : (s.dozeFollow).eventMask = s.eventMask := by
  unfold State.dozeFollow State.converterFollow; (repeat' split) <;> rfl
@[simp] theorem State.packWake_eventMask (s : State) : (s.packWake).eventMask = s.eventMask := by
  unfold State.packWake; (try dsimp only); (repeat' split) <;> first | rfl | (simp; done) | (simp; rfl)
@[simp] theorem State.wakeRest_eventMask (l : Bool) (s : State) : (s.wakeRest l).eventMask = s.eventMask := by
  unfold State.wakeRest; (try dsimp only); (repeat' split) <;> simp
@[simp] theorem State.idleSettle_eventMask (s : State) : (s.idleSettle).eventMask = s.eventMask := by
  unfold State.idleSettle; (try dsimp only); (repeat' split) <;> first | rfl | (simp; done) | (simp; rfl)
@[simp] theorem State.displaySettle_eventMask (s : State) : (s.displaySettle).eventMask = s.eventMask := by
  unfold State.displaySettle; (try dsimp only); (repeat' split) <;> first | rfl | (simp; done) | (simp; rfl)
@[simp] theorem State.startFrame_eventMask (k : SendKind) (s : State) : (s.startFrame k).eventMask = s.eventMask := by
  unfold State.startFrame; (try dsimp only); (repeat' split) <;> first | rfl | (simp; done) | (simp; rfl)
@[simp] theorem State.present_eventMask (s : State) : (s.present).eventMask = s.eventMask := by
  unfold State.present; (try dsimp only); (repeat' split) <;> first | rfl | (simp; done) | (simp; rfl)
@[simp] theorem State.wake_eventMask (l : Bool) (s : State) : (s.wake l).eventMask = s.eventMask := by
  unfold State.wake State.wakeWith; split <;> simp
@[simp] theorem State.wakeIfAsked_eventMask (s : State) : (s.wakeIfAsked).eventMask = s.eventMask := by
  unfold State.wakeIfAsked; (try dsimp only); (repeat' split) <;> first | rfl | (simp; done) | (simp; rfl)
@[simp] theorem State.finish_eventMask (s : State) : (s.finish).eventMask = s.eventMask := by
  unfold State.finish; (try dsimp only); (repeat' split) <;> first | rfl | (simp; done) | (simp; rfl)
@[simp] theorem State.dozeNoticeEnd_eventMask (s : State) : (s.dozeNoticeEnd).eventMask = s.eventMask := by
  unfold State.dozeNoticeEnd; split <;> first | rfl | (simp; done) | (simp; rfl)
@[simp] theorem State.sentWhole_eventMask (f : OwnFrame) (s : State) : (s.sentWhole f).eventMask = s.eventMask := by
  unfold State.sentWhole; (try dsimp only); (repeat' split) <;> first | rfl | (simp; done) | (simp; rfl)
@[simp] theorem State.lostFrame_eventMask (f : OwnFrame) (s : State) : (s.lostFrame f).eventMask = s.eventMask := by
  unfold State.lostFrame; (try dsimp only); (repeat' split) <;> first | rfl | (simp; done) | (simp; rfl)
@[simp] theorem State.endFrame_eventMask (m : Bool) (p : List Pulse) (s : State) : (s.endFrame m p).eventMask = s.eventMask := by
  unfold State.endFrame; (try dsimp only); (repeat' split) <;> first | rfl | (simp; done) | (simp; rfl)
@[simp] theorem State.quietTime_eventMask (p : Option (List Pulse)) (s : State) : (s.quietTime p).eventMask = s.eventMask := by
  unfold State.quietTime; (try dsimp only); (repeat' split) <;> first | rfl | (simp; done) | (simp; rfl)
@[simp] theorem State.frameBegins_eventMask (s : State) : (s.frameBegins).eventMask = s.eventMask := by
  unfold State.frameBegins; (try dsimp only); (repeat' split) <;> first | rfl | (simp; done) | (simp; rfl)
@[simp] theorem State.wakePulse_eventMask (i : Bool) (s : State) : (s.wakePulse i).eventMask = s.eventMask := by
  unfold State.wakePulse; (try dsimp only); (repeat' split) <;> first | rfl | (simp; done) | (simp; rfl)
@[simp] theorem State.lineWakes_eventMask (s : State) : (s.lineWakes).eventMask = s.eventMask := by
  unfold State.lineWakes; (try dsimp only); (repeat' split) <;> first | rfl | (simp; done) | (simp; rfl)
@[simp] theorem State.lineSticks_eventMask (s : State) : (s.lineSticks).eventMask = s.eventMask := by
  unfold State.lineSticks; (try dsimp only); (repeat' split) <;> first | rfl | (simp; done) | (simp; rfl)
@[simp] theorem State.lineFrees_eventMask (s : State) : (s.lineFrees).eventMask = s.eventMask := by
  unfold State.lineFrees; (try dsimp only); (repeat' split) <;> first | rfl | (simp; done) | (simp; rfl)

end Sys2Proof.Machine
end

