-- ==== Sys2Proof/WellFormed.lean ====
section
/-! DEFINITION. Which commands the spec lets the world send: the ranges of their operands. -/

namespace Sys2Proof

/-- A die tag is never 0000h or FFFFh (R173); no station on the line has another (R3). -/
def tagOk (t : Half) : Bool := t != 0x0000#16 && t != 0xFFFF#16

/-- The setting block is 64 bytes (R174). -/
def blockOk (b : List Byte) : Bool := b.length == 64

/-- A thermistor reading in the range of the part, -40 to 125 (R25, R64). -/
def temperatureOk (t : Int) : Bool := decide (-40 ≤ t) && decide (t ≤ 125)

/-- A figure that its two-byte wire field can hold. -/
def fieldOk (n : Nat) : Bool := decide (n < 65536)

/-- A cell voltage, 0 to 5000 mV (R90). -/
def cellOk (v : Nat) : Bool := decide (v ≤ 5000)

/-- The operands of a command lie in the ranges the spec gives them. A service adapter's frames carry
U = 0 and D = 0 as sent, but are handled alike with either set (R3), so neither bit is checked. -/
def Instr.wellFormed : Instr → Bool
  | .powerOnReset _ _ tag block => tagOk tag && blockOk block
  | .supplyDipReset _ tag block => tagOk tag && blockOk block
  | .endOfStartUp _ f => temperatureOk f.temperature && fieldOk f.busVoltage
  | .phaseWatchEnd _ _ => true
  | .quietTime _ _ => true
  | .frameRejected _ => true
  | .packStatusAccepted _ h _ => tagOk h.tag
  | .packProfileAccepted _ h _ => tagOk h.tag
  | .drawAccepted _ h _ => tagOk h.tag
  | .dockStatusAccepted _ h _ => tagOk h.tag
  | .probe _ _ _ _ _ => true
  | .clearCounters _ _ _ => true
  | .clearAndFreeze _ _ _ => true
  | .unfreezeCounters _ _ _ => true
  | .clearChargeHistory _ _ _ => true
  | .serviceRelease _ _ _ => true
  | .replyReceived _ h => tagOk h.tag
  | .unknownKindFrame _ _ => true
  | .slotWaitExpiry _ => true
  | .contentionLost _ => true
  | .sentWhole _ => true
  | .holdOffEnd _ => true
  | .wakePulseSent _ => true
  | .wakePulseReceived _ _ => true
  | .lineStuck _ => true
  | .lineStuckClear _ => true
  | .lineWake _ => true
  | .publishPeriodExpiry _ => true
  | .budgetPeriodExpiry _ v => fieldOk v
  | .dockPeriodExpiry _ t => temperatureOk t
  | .packTemperatureReading _ t => temperatureOk t
  | .triggerPress _ => true
  | .triggerRelease _ => true
  | .wakeWaitExpiry _ => true
  | .alignTimerExpiry _ => true
  | .rampTimerExpiry _ => true
  | .retryTimerExpiry _ => true
  | .zeroCrossing _ => true
  | .crossingTimeout _ => true
  | .speedFallsBelow _ _ => true
  | .setpointStepExpiry _ => true
  | .busCurrentSample _ i => fieldOk (i / 10)
  | .motorOvercurrentTrip _ => true
  | .bridgeOffConfirmation _ => true
  | .handleTemperatureReading _ t => temperatureOk t
  | .modePress _ => true
  | .headPresentChange _ _ => true
  | .headCurrentSample _ i => fieldOk i
  | .jamDetected _ => true
  | .jamOffTimerExpiry _ => true
  | .windowExpiry _ => true
  | .risingCrossing _ => true
  | .deadTimeExpiry _ => true
  | .comparatorFall _ => true
  | .sweepTimerExpiry _ => true
  | .sweepCompletion _ v => decide (3 ≤ v.length) && decide (v.length ≤ 8) && v.all cellOk
  | .currentSample _ i => decide (i.natAbs < 3600000)
  | .overdrawTimerExpiry _ => true
  | .overdrawRecoveryExpiry _ => true
  | .shortTrip _ => true
  | .shedTimerExpiry _ => true
  | .graceTimerExpiry _ => true
  | .gaugePress _ => true
  | .gaugeDisplayExpiry _ => true
  | .gaugeBlinkStep _ => true
  | .csRise _ => true
  | .csFall _ => true
  | .outputSample _ vo io vi => fieldOk (vo / 10) && fieldOk (io / 10) && fieldOk vi
  | .starveTimerExpiry _ => true
  | .supplyWeakRecoveryExpiry _ => true
  | .dockLedStep _ => true
  | .patternStep _ => true
  | .envelopeStepExpiry _ => true
  | .clickTimerExpiry _ => true
  | .handleGaugeBlinkStep _ => true
  | .idleTimerExpiry _ => true
  | .frameBegins _ => true
  | .supplyFall _ _ => true
  | .rampCommutation _ => true

end Sys2Proof
end

