-- ==== Sys2Proof/Tests/Slice0.lean ====
section
/-! SUPPORT. Tests: the spec's worked figures, one step each; an ill-formed command for each check; and for every
statement of Obligations.lean a state and operands that meet its hypotheses, clause by clause. -/

open Sys2Proof Sys2Proof.Machine

namespace Sys2Proof.Tests

/-! ### Small states -/

/-- A running HANDLE. -/
def handle : State := { State.reset with power := .running, hb.vbus := 2000, hb.timer := some 0 }

/-- A running PACK, with cell records. -/
def pack : State :=
  { State.reset with power := .running, role := some .pack, tag := 0x3A41, cmu.cells := List.replicate 7 {} }

/-- A running DOCK that is docked. -/
def dock : State := { State.reset with power := .running, role := some .dock, tag := 0x51C6, ccu.run := .idle, db.timer := some 0 }

/-- A sender of tag 2, sequence 3, U and D clear. -/
def peer : Sender := ⟨2, 3, false, false⟩

/-- A quiet summary. -/
def calm : Summary := ⟨0, 0, 0⟩

/-- A pack status: switch ON, no condition, limit 119, charge limit 125, target 2940, path field WANT. -/
def status : PackStatus := ⟨2500, 0, 119, 125, 2940, 0, 120, 25, calm, 0, 1, false, 0⟩

/-- A profile of 7 cells, maximum discharge 200, maximum charge 125. -/
def profile : PackProfile := ⟨7, 0, 400, 400, 0, 100, 4200, 3000, 200, 125⟩

/-- A draw of a stopped HANDLE. -/
def still : Draw := ⟨1, 0, false, 0, 0, 0, 0, 0, 0, 0, calm⟩

/-- A dock status in OFFER. -/
def offer : DockStatus := ⟨2, 0, 0, 0, 0, 30, 0, calm⟩

/-- What a command leaves. -/
def after (a : Answer) : State :=
  match a with
  | .next t => t
  | .fault _ => State.reset
  | .refused _ => State.reset

/-! ### The spec's worked figures -/

/-- Section 2.3.1's HANDLE. -/
def worked : State :=
  { handle with
    hb := { handle.hb with pGrant := 1900, vbus := 2172 }
    mdu := { handle.mdu with motor := .run }, head.current := 85, dsu.boost := 3
    pv := { handle.pv with
      pack := { tag := some 2, state := .fresh, lastSeq := some 2, stored := some status }
      slot := some ⟨profile, 2⟩ } }

/-- 2.3.1: at the acceptance the grant stays at 1900, at the next period expiry it is 1940 and I_mot 8931. -/
theorem test_grant : (after (exec (.packStatusAccepted 0 peer status) worked)).hb.pGrant = 1900 ∧
    (after (exec (.budgetPeriodExpiry 0 2172) worked)).hb.pGrant = 1940 ∧
    (after (exec (.budgetPeriodExpiry 0 2172) worked)).hb.iMot = 8931 := by decide

/-- 2.3.2: a STALE entry cuts the grant to 1064, I_mot 4898. -/
theorem test_grant_stale : (State.computeGrant false { worked with pv.pack.state := .stale }).hb.pGrant = 1064 ∧
    (State.computeGrant false { worked with pv.pack.state := .stale }).hb.iMot = 4898 := by decide

/-- 2.3.3: at 8.50 V the grant is 926, I_mot is held and BUS_LOW raised. -/
theorem test_bus_low :
    let s := { worked with hb := { worked.hb with pGrant := 1950, iMot := 9069 } }
    let t := after (exec (.budgetPeriodExpiry 0 850) s)
    t.hb.pGrant = 926 ∧ t.hb.iMot = 9069 ∧ t.hb.belowFloor = 1 ∧ t.has .busLow = true := by decide

/-- 2.3.3: the third period below the floor raises SUPPLY_LOST, which coasts the motor. -/
theorem test_supply_lost :
    let s := { worked with hb := { worked.hb with belowFloor := 2 } }
    let t := after (exec (.budgetPeriodExpiry 0 700) s)
    t.has .supplyLost = true ∧ t.mdu.motor = .coast .hold ∧ t.hb.pGrant = 0 := by decide

/-- Section 2.5's DOCK. -/
def workedDock : State :=
  { dock with
    ccu := { dock.ccu with run := .active, conv := .cc, credit := 100 }
    db := { dock.db with iSet := 2000, temp := 60, cap := 30 }
    pv := { dock.pv with
      pack := { tag := some 2, state := .fresh, lastSeq := some 2, stored := some { status with chargeLimit := 150, field := 2 } }
      slot := some ⟨profile, 2⟩ } }

/-- 2.5: the first dock period expiry takes I_set to 2100, with I_tgt 2500 and V_ceil 29,400. -/
theorem test_dock_setpoint :
    let t := after (exec (.dockPeriodExpiry 0 60) workedDock)
    t.db.iSet = 2100 ∧ t.db.iTgt = 2500 ∧ t.db.vCeil = 29400 ∧ t.db.cap = 30 := by decide

/-- 2.5: at 75 degrees C is 19, the dock status is requested urgently, and I_tgt is 1900. -/
theorem test_dock_derating :
    let t := after (exec (.dockPeriodExpiry 0 75) { workedDock with db.iSet := 2000 })
    t.db.cap = 19 ∧ t.db.iTgt = 1900 ∧ t.db.iSet = 1900 ∧ t.liu.tx.state.any (·.urgent) = true ∧
      t.has .dockHot = true := by decide

/-- 3.8.1: the band's placements. -/
theorem test_band : placeSpeed 850 900 87000 = 84900 ∧ placeSpeed 850 900 90000 = 90100 ∧
    placeSpeed 850 900 87500 = 90100 ∧ placeSpeed 850 900 93000 = 93000 := by decide

/-- 3.8.2: a press against a DOZING pack waits, with a wake pulse requested. -/
theorem test_wake_wait :
    let t := after (exec (.triggerPress 7) { handle with pv.pack.state := .dozing })
    t.mdu.wakeWait = some 7 ∧ t.liu.wakeRequest = true ∧ t.mdu.motor = .stopped := by decide

/-- 3.8.2: the ramp timer's expiry is a failed start; the motor coasts with aim RETRY. -/
theorem test_failed_ramp :
    let t := after (exec (.rampTimerExpiry 0) { handle with mdu := { handle.mdu with motor := .ramp } })
    t.mdu.motor = .coast .retry ∧ t.mdu.failedStarts = 1 ∧ t.mdu.retryTimer.isSome = true := by decide

/-- 3.8.3: the bridge-off confirmation takes aim HOLD to HELD. -/
theorem test_held :
    (after (exec (.bridgeOffConfirmation 10) { handle with mdu := { handle.mdu with motor := .coast .hold } })).mdu.motor
      = .held := by decide

/-- 3.8.3: two crossings 160 us apart with 2 pole pairs read 31,250 rpm. -/
theorem test_speed_reading :
    (after (exec (.zeroCrossing 160) { handle with mdu := { handle.mdu with lastValid := some 0 } })).mdu.speed
      = 31250 := by decide

/-- Section 4.6.1's HANDLE at its first window: 30 counts, B jumps to 1 and the target to 81,000 rpm. -/
def dirty : State :=
  { handle with
    mdu := { handle.mdu with motor := .run, speed := 78000, sTgt := 78000, sCur := 78000 }
    dsu := { handle.dsu with
      windowTimer := some 0, count := 30, disturbed := false, startSpeed := 78000, ring := List.replicate 16 1
      score := 20, tally := 40 } }

/-- 4.6.1, window 0 to 50 ms. -/
theorem test_dirt_burst :
    let t := after (exec (.windowExpiry 50000) dirty)
    t.dsu.score = 78 ∧ t.dsu.level = 1 ∧ t.dsu.boost = 1 ∧ t.dsu.decay = 0 ∧ t.dsu.tally = 70 ∧
      t.mdu.sTgt = 81000 ∧ t.dsu.threshold = 237 := by decide

/-- 4.6.1, window 800 to 850 ms: the score falls to 177 and the level to 2 while B stays. -/
theorem test_dirt_level_falls :
    let s := { dirty with
      dsu := { dirty.dsu with
        count := 1, ring := [1, 1, 2, 4, 70, 55, 30, 1, 1, 1, 1, 1, 1, 1, 1, 1], level := 3, boost := 3, decay := 2 } }
    let t := after (exec (.windowExpiry 50000) s)
    t.dsu.score = 177 ∧ t.dsu.level = 2 ∧ t.dsu.boost = 3 ∧ t.dsu.decay = 3 := by decide

/-- 5.6.1: learning at the empty anchor. -/
theorem test_learning :
    let s := { pack with
      gauge := { pack.gauge with qRem := 281, dFull := 3719, learnArmed := true, revision := 5 } }
    s.emptyAnchor.gauge.full = 3869 ∧ s.emptyAnchor.gauge.qRem = 150 ∧ s.emptyAnchor.gauge.health = 96 ∧
      s.emptyAnchor.gauge.revision = 6 ∧ s.emptyAnchor.gauge.soc = 7 := by decide

/-- 5.6.1: an anchor at 3100 mAh is limited to 3600. -/
theorem test_learning_limited : learnedFull 3100 150 4000 4000 = 3600 := by decide

/-- 2.3.1 and 5.9: the voltage factor and the limit of a sweep with V_min 3180, switch ON. -/
theorem test_sweep_limits :
    let s := { pack with cmu := { pack.cmu with sweeping := true, dsw := .on }, pb.temp := 41 }
    let t := after (exec (.sweepCompletion 0 [3180, 3500, 3500, 3500, 3500, 3500, 3500]) s)
    t.pb.fV = 153 ∧ t.pb.fT = 256 ∧ t.pb.iDis = 119 ∧ t.pb.dischargeLimit = 119 := by decide

/-- 5.9 at 300 ms: f_V is 0, CELL_LOW is raised and the switch goes to CUT_PENDING. -/
theorem test_pack_low_cut :
    let s := { pack with cmu := { pack.cmu with sweeping := true, dsw := .on }, pb.temp := 38 }
    let t := after (exec (.sweepCompletion 0 [2996, 3100, 3100, 3100, 3100, 3100, 3100]) s)
    hasActive t.cdu .cellLow = true ∧ t.cmu.dsw = .cutPending ∧ t.pb.dischargeLimit = 0 := by decide

/-- 7.6: the summary bytes of the list through the cut. -/
theorem test_summaries :
    summaryByte (summaryOf .pack [⟨.cellLowWarn, 1380000, 1, .active⟩, ⟨.cellImbalance, 900000, 1, .active⟩]) = 0x54#8 ∧
    summaryByte (summaryOf .pack [⟨.cellLow, 1500300, 1, .latched⟩, ⟨.cellLowWarn, 1380000, 1, .active⟩]) = 0xDD#8 ∧
    summaryByte (summaryOf .pack [⟨.cellImbalance, 900000, 1, .active⟩]) = 0x34#8 := by decide

/-- 7.6: the reply of record id 2, index 0, at 1,530,000. -/
theorem test_condition_record :
    State.conditionData ⟨.cellLow, 1500300, 1, .latched⟩ { pack with clock := 1530000000 } = [34, 0xDD, 1, 29] := by
  decide

/-- Section 6.7's PACK in WANT, with the DOCK entry FRESH. -/
def wanting : State :=
  { pack with
    gauge := { pack.gauge with qRem := 3500, full := 3869, health := 96 }
    pb := { pack.pb with chargeLimit := 125, temp := 25 }
    path := { pack.path with field := .want, allowance := 12340, received := 40112 }
    pv.dock := { tag := some 2, state := .fresh, lastSeq := some 2, stored := some { offer with run := 1 } } }

/-- 6.7.1 at 8.44 ms: an offer is accepted; the base figures are noted and the charge switch closes. -/
theorem test_offer_accepted :
    let t := after (exec (.dockStatusAccepted 0 peer offer) wanting)
    t.path.field = .accept ∧ t.path.baseAllowance = 12340 ∧ t.path.baseReceived = 40112 ∧ t.cmu.csw = true := by decide

/-- 6.7.1 at 17.64 ms: run 37 is noted and the allowance is 12,440. -/
theorem test_run_noted :
    let s := { wanting with
      path := { wanting.path with field := .accept, baseAllowance := 12340, baseReceived := 40112 }, cmu.csw := true }
    let t := after (exec (.dockStatusAccepted 0 peer { offer with run := 3, runNumber := 37 }) s)
    t.path.notedRun = some 37 ∧ t.path.allowance = 12440 := by decide

/-- 6.7.1: the profile that ends the strict wait begins run 37 with baseline 12,340 and no credit. -/
theorem test_run_begins :
    let s := { dock with
      ccu := { dock.ccu with run := .offer, strictWait := true, runCounter := 36 }
      pv.pack := { tag := some 2, state := .fresh, lastSeq := some 2, stored := some { status with field := 2, allowance := 12340 } } }
    let t := after (exec (.packProfileAccepted 0 peer profile) s)
    t.ccu.run = .active ∧ t.ccu.runNumber = 37 ∧ t.ccu.baseline = 12340 ∧ t.ccu.credit = 0 ∧ t.ccu.conv = .off ∧
      t.ccu.starveTimer.isSome = true := by decide

/-- 6.7.1 near 43 ms: R is 100, the gate opens, and the converter is in CC with I_set 0. -/
theorem test_gate_opens :
    let s := { workedDock with
      ccu := { workedDock.ccu with conv := .off, credit := 0, baseline := 12340, starveTimer := some 0 }, db.iSet := 0 }
    let t := after (exec (.packStatusAccepted 0 peer { status with field := 2, allowance := 12440 }) s)
    t.ccu.credit = 100 ∧ t.ccu.conv = .cc ∧ t.db.iSet = 0 ∧ t.ccu.starveTimer = none ∧ t.db.iTgt = 2500 := by decide

/-- 6.7.2: the excess of the last row is 65,394. -/
theorem test_excess :
    PathState.excess { pack.path with baseAllowance := 12340, allowance := 12840 } 358 = 65394 := by decide

/-- 8.7 at 200: ROLE_CLASH preempts BRUSH_JAM, which is pushed; PACK_LOST waits. -/
theorem test_nesting :
    let t := (({} : Tiu).request 0 (.code .brushJam) 7).request 100000 (.code .packLost) 6
    let u := t.request 200000 (.code .roleClash) 8
    u.level = 8 ∧ u.stack = [⟨.code .brushJam, 7, false⟩] ∧ u.waiting = [⟨.code .packLost, 6, false⟩] := by decide

/-- 8.7.1: DOCKED leaves a full stack for the pending summary. -/
theorem test_spill :
    let t : Tiu := { level := 7, playing := some ⟨.code .brushJam, 7, 0, 0, .pulse⟩
                     stack := [⟨.code .packLost, 6, false⟩, ⟨.code .handleHot, 5, false⟩,
                       ⟨.code .dirtSensorFault, 2, false⟩, ⟨.docked, 1, false⟩] }
    let u := t.request 0 (.code .motorOvercurrent) 14
    u.level = 14 ∧ u.stack.map (·.level) = [7, 6, 5, 2] ∧ u.waiting = [⟨.docked, 1, false⟩] := by decide

/-- 9.7: the base slots of the three stations, and the waits of k = 2. -/
theorem test_slots : baseSlot 0x3A41 0x00FF 0x0F0F 0x3333 = 2 ∧ baseSlot 0x51C6 0x00FF 0x0F0F 0x3333 = 2 ∧
    baseSlot 0x8E17 0x00FF 0x0F0F 0x3333 = 4 ∧
    (List.range 8).map (slotMicros 2) = [120, 240, 40, 160, 280, 80, 200, 320] := by decide

/-- 9.4: over the single byte 00h the CRC register ends at 42h. -/
theorem test_crc : crc8 [0x00] = 0x42 := by decide

/-- 9.7: the first byte of a pack profile is 2Eh, of a dock status 4Ah, of a draw 3Bh. -/
theorem test_first_bytes :
    (OwnFrame.bytes ⟨.profile, .packProfile profile, false, false, 0⟩ .pack 0x3A41).head? = some 0x2E ∧
    (OwnFrame.bytes ⟨.state, .dockStatus offer, false, false, 0⟩ .dock 0x51C6).head? = some 0x4A ∧
    (OwnFrame.bytes ⟨.state, .draw still, false, false, 0⟩ .handle 0x8E17).head? = some 0x3B := by decide

/-- 1.5.1: the missed counts 6 and 12 of the pack that came back. -/
theorem test_missed : missedBetween (some 9) 0 = 6 ∧ missedBetween (some 3) 0 = 12 := by decide

/-- 1.5.1: three publish expiries leave a FRESH entry STALE with age 3. -/
theorem test_aging :
    let e : PeerEntry PackStatus := { tag := some 0x3A41, state := .fresh }
    e.aged.aged.state = .fresh ∧ e.aged.aged.aged.state = .stale ∧ e.aged.aged.aged.age = 3 := by decide

/-- 10.4: the idle timer's expiry is ENTERING, with an urgent pack status requested and the timers stopped. -/
theorem test_doze_entry :
    let t := after (exec (.idleTimerExpiry 0) { pack with ssc.idleTimer := some 0, pv.publishTimer := some 0 })
    t.ssc.doze = .entering ∧ t.liu.tx.state.any (·.urgent) = true ∧ t.pv.publishTimer = none := by decide

/-- R58, R62: the confirmation found in STOPPED makes START_FAIL LATCHED. -/
theorem test_bridge_confirmed_at_rest :
    let t := after (exec (.bridgeOffConfirmation 10) { handle with cdu := [⟨.startFail, 0, 1, .active⟩] })
    t.cdu = [⟨.startFail, 0, 1, .latched⟩] ∧ t.mdu.motor = .stopped := by decide

/-- R129: the record of a run that a status with D = 1 ends shows the state of charge of that status. -/
theorem test_doze_status_ends_run :
    let t := after (exec (.packStatusAccepted 0 { peer with doze := true } { status with soc := 77 }) workedDock)
    t.ccu.run = .idle ∧ t.ccu.history.map (·.endSoc) = [77] ∧ t.ccu.history.map (·.cause) = [.packLost] := by decide

/-- R109: a learning from 3600 to 3960 mAh at Q_rem 3500 takes the state of charge from 194 below 190, before the anchor
takes it to 7: the FULL flag is gone. -/
theorem test_learning_is_a_soc_event :
    let s := { pack with
      gauge := { pack.gauge with qRem := 3500, full := 3600, dFull := 3810, learnArmed := true }, path.fullFlag := true }
    s.gauge.soc = 194 ∧ s.emptyAnchor.gauge.full = 3960 ∧ s.emptyAnchor.gauge.soc = 7 ∧
      s.emptyAnchor.path.fullFlag = false := by decide

/-- R120: with a grant step of 999, 65,528 granted and 65,030 taken, the test holds after 6554 and after 8068 grants and
fails after the 8069th. -/
theorem test_grants_until_the_test_fails :
    let ahead := fun grants : Nat =>
      PathState.ahead { pack.path with allowance := 65528 + BitVec.ofNat 16 (999 * grants), received := 65030 }
    ahead 6554 < 499 ∧ ahead 8068 < 499 ∧ ¬ ahead 8069 < 499 := by decide

/-- R137: a CELL_LOW that a dip kept ACTIVE is re-raised at the first sweep that finds a cell still low, once: its count
rises to 2, and the next such sweep leaves it there. -/
theorem test_kept_trip_is_raised_once :
    let s := { pack with cdu := [⟨.cellLow, 0, 1, .active⟩], cmu.kept := [.cellLow], cmu.sweeping := true }
    let t := after (exec (.sweepCompletion 0 (List.replicate 7 2900)) s)
    let u := after (exec (.sweepCompletion 0 (List.replicate 7 2900)) { t with cmu.sweeping := true })
    let low := fun x : State => (x.cdu.filter (·.code == .cellLow)).map (·.count)
    low t = [2] ∧ t.cmu.kept = [] ∧ low u = [2] := by decide

/-- R165, R179: a lone wake pulse that wakes a station counts nothing, with LINE_STUCK present too. -/
theorem test_wake_pulse_counts_nothing :
    let s := { pack with cdu := [⟨.lineStuck, 0, 1, .active⟩], ssc.doze := .dozing, liu.line := .quiet }
    let w := after (exec (.wakePulseReceived 3 false) (after (exec (.lineWake 5) s)))
    let t := after (exec (.quietTime 500 none) w)
    t.ssc.doze = .awake ∧ t.liu.line = .quiet ∧ t.liu.rejected = 0 := by decide

/-- R178, R131: the end of the doze notice turns a DOCK's converter OFF, and the wake lets it leave OFF again. -/
theorem test_converter_off_in_doze :
    let f : OwnFrame := ⟨.state, .dockStatus offer, false, true, 0⟩
    let s : State := { workedDock with
      liu.line := .sending f, ssc.doze := .entering, ccu.conv := .cc, ccu.credit := 5
      db.iSet := 1000, db.vCeil := 29400 }
    let t := after (exec (.sentWhole 10) s)
    let w := after (exec (.lineWake 10) t)
    (t.ssc.doze = .dozing ∧ t.ccu.run = .active ∧ t.ccu.conv = .off ∧ t.db.iSet = 0) ∧
    (w.ssc.doze = .awake ∧ w.ccu.conv = .cc ∧ w.db.iSet = 0) := by decide

/-! ### The queue -/

/-- First in, first out, and the idle of an empty queue. -/
theorem test_queue :
    let s := { handle with pending := [.clickTimerExpiry 3, .clickTimerExpiry 4] }
    (after (step s)).clock = 3 ∧ (after (step s)).pending = [.clickTimerExpiry 4] ∧ after (step handle) = handle := by
  decide

/-- No word spells a command: the table gives no bits. -/
theorem test_no_words : decodeTableWord 8 0 = none ∧ handle.withFetchWord 8 0 = handle := by decide

/-! ### Ill-formed commands -/

theorem test_wf_tag_zero : (Instr.powerOnReset 0 0 0 (List.replicate 64 0)).wellFormed = false := by decide
theorem test_wf_tag_ones : (Instr.supplyDipReset 0 0xFFFF (List.replicate 64 0)).wellFormed = false := by decide
theorem test_wf_block : (Instr.powerOnReset 0 0 1 (List.replicate 63 0)).wellFormed = false := by decide
theorem test_wf_dip_block : (Instr.supplyDipReset 0 1 []).wellFormed = false := by decide
theorem test_wf_first_temperature : (Instr.endOfStartUp 0 ⟨126, 0, false, false, false⟩).wellFormed = false := by decide
theorem test_wf_first_bus : (Instr.endOfStartUp 0 ⟨25, 65536, false, false, false⟩).wellFormed = false := by decide
theorem test_wf_sender : (Instr.packStatusAccepted 0 { peer with tag := 0 } status).wellFormed = false ∧
    (Instr.packProfileAccepted 0 { peer with tag := 0 } profile).wellFormed = false ∧
    (Instr.drawAccepted 0 { peer with tag := 0xFFFF } still).wellFormed = false ∧
    (Instr.dockStatusAccepted 0 { peer with tag := 0 } offer).wellFormed = false ∧
    (Instr.replyReceived 0 { peer with tag := 0 }).wellFormed = false := by decide
theorem test_wf_bus : (Instr.budgetPeriodExpiry 0 65536).wellFormed = false := by decide
theorem test_wf_temperatures : (Instr.dockPeriodExpiry 0 (-41)).wellFormed = false ∧
    (Instr.packTemperatureReading 0 126).wellFormed = false ∧
    (Instr.handleTemperatureReading 0 126).wellFormed = false := by decide
theorem test_wf_currents : (Instr.busCurrentSample 0 655360).wellFormed = false ∧
    (Instr.headCurrentSample 0 65536).wellFormed = false ∧
    (Instr.currentSample 0 (-3600000)).wellFormed = false := by decide
theorem test_wf_cells : (Instr.sweepCompletion 0 [3500, 3500]).wellFormed = false ∧
    (Instr.sweepCompletion 0 (List.replicate 9 3500)).wellFormed = false ∧
    (Instr.sweepCompletion 0 [3500, 3500, 5001]).wellFormed = false := by decide
theorem test_wf_output : (Instr.outputSample 0 655360 0 0).wellFormed = false ∧
    (Instr.outputSample 0 0 655360 0).wellFormed = false ∧ (Instr.outputSample 0 0 0 65536).wellFormed = false := by
  decide
theorem test_wf_accepts : (Instr.powerOnReset 0 0 1 (List.replicate 64 0)).wellFormed = true ∧
    (Instr.sweepCompletion 0 (List.replicate 8 5000)).wellFormed = true ∧
    (Instr.outputSample 0 29400 2500 65535).wellFormed = true := by decide

/-! ### The hypotheses of every statement, met

Each theorem is named after its statement. Its conjuncts are the hypotheses of the statement's clauses, at concrete
states and operands and, where a clause has a range, at its boundary. -/

/-- A frame of the PACK on the line. -/
def packFrame : OwnFrame := ⟨.state, .packStatus status, false, false, 0⟩

/-- A pending request, attempt 0. -/
def asked (urgent : Bool) : Request := ⟨urgent, 0, 0, 0, none, false⟩

/-- An active record. -/
def active (c : Code) : Record := ⟨c, 0, 1, .active⟩

/-- A HANDLE in a motor state, the trigger pressed. -/
def inMotor (m : Motor) (speed : Nat := 0) : State :=
  { handle with mdu := { handle.mdu with motor := m, trigger := true, speed := speed } }

/-- A die whose line interface has this line. -/
def onLine (l : Line) (s : State) : State := { s with liu.line := l }

/-- A die with these records. -/
def withList (l : List Record) (s : State) : State := { s with cdu := l }

/-- A die that dozes. -/
def asleep (s : State) : State := { s with ssc.doze := .dozing }

/-- An entry of the peer's tag, with another sequence than the peer's. -/
def entry {α : Type} (st : Freshness) (n : Option α) : PeerEntry α :=
  { tag := some 2, state := st, lastSeq := some 2, stored := n }

/-- That entry, at an age. -/
def aging {α : Type} (st : Freshness) (age : Nat) (n : Option α) : PeerEntry α := { entry st n with age := age }

/-- The pulses of the bytes of a frame, its CRC added. -/
def heard (bytes : List Byte) : List Pulse := framePulses (bytes ++ [crc8 bytes])

/-- A line that is not settled carries no own frame. -/
theorem notSending (s : State) (h : s.liu.line = .unsettled) : ∀ f, s.liu.line ≠ .sending f := by
  intro f hf
  rw [h] at hf
  cases hf

theorem test_hyp_StepRunsTheFrontCommand :
    { handle with pending := [.clickTimerExpiry 3, .csRise 0] }.pending = .clickTimerExpiry 3 :: [.csRise 0] ∧
    handle.pending = [] := by decide

theorem test_hyp_EveryCommandAnswers :
    let s := { handle with role := none }
    (State.reset.power ≠ .running ∨ State.reset.role = none) ∧ (s.power ≠ .running ∨ s.role = none) ∧
    (∀ dt straps tag block, Instr.triggerPress 0 ≠ .powerOnReset dt straps tag block) ∧
    (∀ dt tag block, Instr.triggerPress 0 ≠ .supplyDipReset dt tag block) ∧
    (∀ dt f, Instr.triggerPress 0 ≠ .endOfStartUp dt f) ∧ (∀ dt b, Instr.triggerPress 0 ≠ .supplyFall dt b) :=
  ⟨by decide, by decide, by simp⟩

theorem test_hyp_SupplyDipAndFall : handle.power ≠ .off ∧ (pack.power ≠ .off ∧ pack.role = some .pack) ∧
    dock.role ≠ some .pack := by decide

/-- The bounds at which each kept cause is found: a cell at the minimum and at the maximum and 50 mV, a charge of 100 mA,
the sense shutdown. -/
theorem test_hyp_SupplyDipAndFall_kept :
    let s := fun (c : Code) (kept : List Code) (i : Int) => withList [active c]
      { pack with cmu := { pack.cmu with kept := kept, sweeping := true, current := i } }
    let h := pack.settings.pack
    ((s .cellLow [.cellLow] 0).Ready .pack ∧ (s .cellLow [.cellLow] 0).ListOk ∧
      active .cellLow ∈ (s .cellLow [.cellLow] 0).cdu ∧ (active .cellLow).phase = .active ∧
      (active .cellLow).code ∈ (s .cellLow [.cellLow] 0).cmu.kept ∧
      (active .cellLow).code ∉ (s .cellLow [] 0).cmu.kept ∧ (s .cellLow [] 0).cmu.sweeping = true) ∧
    ((List.replicate 7 3000).length = h.cellCount ∧ ∃ y ∈ List.replicate 7 3000, y ≤ h.cellMin) ∧
    ((s .cellHigh [.cellHigh] 0).Ready .pack ∧ (s .cellHigh [.cellHigh] 0).ListOk ∧
      ∃ y ∈ List.replicate 7 4250, h.cellMax + 50 ≤ y) ∧
    ((s .chargeOverrun [.chargeOverrun] (-100)).Ready .pack ∧ (s .chargeOverrun [.chargeOverrun] (-100)).ListOk ∧
      100 ≤ (-(s .chargeOverrun [.chargeOverrun] (-100)).cmu.current).toNat) ∧
    ((s .short [.short] 0).Ready .pack ∧ (s .short [.short] 0).ListOk ∧ h.shortThreshold * 100 ≤ (60000 : Int).toNat) := by
  unfold State.ListOk; decide

theorem test_hyp_EndOfStartUp :
    let s := State.reset
    let x := { State.reset with settingsFailed := true }
    (s.power = .starting ∧ s.role = some .handle ∧ s.ssc.doze = .awake ∧ s.ssc.wakeAsked = false ∧ s.cdu = []) ∧
    (s.settingsFailed = false ∧ (80 : Int) ≤ 80) ∧
    (x.power = .starting ∧ x.role = some .handle ∧ x.ssc.doze = .awake ∧ x.ssc.wakeAsked = false ∧ x.cdu = [] ∧
      x.settingsFailed = true) ∧
    ((80 : Int) < 81 ∧ s.mdu.motor = .stopped ∧ s.mdu.wakeWait = none) := by decide

theorem test_hyp_EndOfStartUp_packAndDock :
    let p := { State.reset with role := some .pack }
    let d := { State.reset with role := some .dock }
    let common := fun s : State => s.power = .starting ∧ s.role = some .pack ∧ s.ssc.doze = .awake ∧
      s.ssc.wakeAsked = false ∧ s.cdu = [] ∧ s.liu.tx = ⟨none, none, none⟩ ∧ s.cmu.dsw = .off ∧ s.cmu.csw = false ∧
      s.cmu.swept = false ∧ s.pv.dock.state = .absent ∧ (s.path.field = .none ∨ s.path.field = .accept)
    (common p ∧ p.settingsFailed = false ∧ limitTemp 59 < p.settings.pack.tHot2 ∧ p.path.field = .none) ∧
    (common { p with path.field := .accept } ∧ { p with path.field := .accept }.liu.line = .unsettled) ∧
    common { p with settingsFailed := true } ∧
    ¬ limitTemp 60 < p.settings.pack.tHot2 ∧
    (d.power = .starting ∧ d.role = some .dock ∧ d.ssc.doze = .awake ∧ d.ssc.wakeAsked = false ∧ d.cdu = [] ∧
      d.settingsFailed = false ∧ d.liu.tx = ⟨none, none, none⟩ ∧ d.pv.pack.state = .absent ∧ d.ccu.run = .undocked ∧
      d.ccu.conv = .off ∧ d.ccu.credit = 0 ∧ d.ccu.passMode = false ∧ d.ccu.starveTimer = none ∧ d.db.cap = 0) := by
  decide

theorem test_hyp_LineEvents :
    (handle.Runs .handle ∧ pack.Runs .pack ∧ dock.Runs .dock) ∧
    ((onLine .pulsing pack).Runs .pack ∧ (onLine .pulsing pack).liu.line = .pulsing) ∧
    ((onLine .quiet pack).Runs .pack ∧ (onLine .quiet pack).receives = true) ∧
    ((onLine (.receiving false false) pack).Runs .pack ∧ (onLine (.receiving false false) pack).receives = true) ∧
    ((withList [active .lineStuck] (onLine (.receiving false true) pack)).Runs .pack ∧
      (withList [active .lineStuck] (onLine (.receiving false true) pack)).receives = false) := by
  decide

theorem test_hyp_QuietTime :
    let r := onLine (.receiving false false) handle
    (handle.Runs .handle ∧ handle.liu.line = .unsettled) ∧
    (r.Runs .handle ∧ r.receives = true ∧ noFrame [⟨0, 5000⟩, ⟨20000, 5000⟩] = false ∧
      receptionChecks [⟨0, 5000⟩, ⟨20000, 5000⟩] = none) ∧
    ((onLine (.receiving true false) handle).Runs .handle ∧ (onLine (.receiving true false) handle).receives = true) ∧
    ((onLine (.receiving false true) handle).Runs .handle ∧ (onLine (.receiving true true) handle).Runs .handle) ∧
    (noFrame [] = true ∧ noFrame [⟨0, 900000⟩] = true) := by decide

/-- Own notices are read; so are a probe and the five clears of an adapter with tag 7, a reply, and a frame of kind 9. -/
theorem test_hyp_QuietTime_kinds :
    let a : Sender := ⟨7, 0, false, false⟩
    let clear := fun n : Byte => receptionChecks (heard [0x63, 0xC0, 0, 7, 0x40 ||| n, 0, 0])
    (receptionChecks (framePulses (OwnFrame.bytes ⟨.state, .packStatus status, false, false, 0⟩ .pack 7))
      = some (.packStatus a status)) ∧
    receptionChecks (framePulses (OwnFrame.bytes ⟨.profile, .packProfile profile, false, false, 0⟩ .pack 7))
      = some (.packProfile a profile) ∧
    receptionChecks (framePulses (OwnFrame.bytes ⟨.state, .draw still, false, false, 0⟩ .handle 7))
      = some (.draw a still) ∧
    receptionChecks (framePulses (OwnFrame.bytes ⟨.state, .dockStatus offer, false, false, 0⟩ .dock 7))
      = some (.dockStatus a offer) ∧
    receptionChecks (heard [0x54, 0xC0, 0, 7, 0x42, 3, 0, 0]) = some (.probe a ⟨1, 0⟩ 2 3) ∧
    clear 1 = some (.clear a ⟨1, 0⟩ 1) ∧ clear 2 = some (.clear a ⟨1, 0⟩ 2) ∧ clear 3 = some (.clear a ⟨1, 0⟩ 3) ∧
    clear 4 = some (.clear a ⟨1, 0⟩ 4) ∧ clear 5 = some (.clear a ⟨1, 0⟩ 5) ∧
    receptionChecks (heard [0x71, 0x40, 0, 7, 0x20]) = some (.reply a) ∧
    receptionChecks (heard [0x91, 0x40, 0, 7, 0x20]) = some (.unknown a) := by decide +kernel

theorem test_hyp_SentFramesAreReadAsSent :
    packFrame.body = .packStatus status ∧
    (OwnFrame.mk .profile (.packProfile profile) false false 0).body = .packProfile profile ∧
    (OwnFrame.mk .state (.draw still) false false 0).body = .draw still ∧
    (OwnFrame.mk .state (.dockStatus offer) false false 0).body = .dockStatus offer ∧
    ((OwnFrame.mk .reply (.reply [0x20]) false false 0).body = .reply [0x20] ∧ 1 ≤ [0x20].length) ∧
    (OwnFrame.mk .reply (.reply (List.replicate 14 0)) false false 0).body = .reply (List.replicate 14 0) ∧
    (List.replicate 14 0).length ≤ 14 := by decide

/-- The common part of a block with the factory defaults. -/
def commonPart : List Byte := [0, 255, 15, 15, 51, 51, 0, 0, 0, 0, 100, 0, 0, 0]

/-- A HANDLE's block with the factory defaults. -/
def handleBlock : List Byte :=
  commonPart ++ [2, 2, 88, 4, 26, 3, 12, 30, 4, 175, 0, 100, 0, 250, 3, 32, 10, 40, 5, 220, 0, 150, 0, 120, 0, 150, 3, 132, 40,
    0, 40, 0, 120, 0, 240, 1, 144, 2, 128, 3, 192, 5, 120, 60, 0, 120, 24, 0, 0x88, 0x94]

/-- A PACK's block with the factory defaults. -/
def packBlock : List Byte :=
  commonPart ++ [7, 16, 104, 11, 184, 12, 228, 246, 50, 60, 5, 45, 15, 160, 200, 125, 0, 100, 0, 100, 2, 88, 0, 150, 20]
    ++ List.replicate 23 0 ++ [0xE2, 0x4C]

/-- A DOCK's block with the factory defaults. -/
def dockBlock : List Byte :=
  commonPart ++ [30, 164, 16, 70, 85, 66, 104, 1] ++ List.replicate 40 0 ++ [0xBB, 0x84]

/-- Blocks of 64 bytes that pass at each role, and one that fails. -/
theorem test_hyp_PowerOnResetValues :
    (handleBlock.length = 64 ∧ blockPasses .handle handleBlock = true) ∧
    (packBlock.length = 64 ∧ blockPasses .pack packBlock = true) ∧
    (dockBlock.length = 64 ∧ blockPasses .dock dockBlock = true) ∧
    blockPasses .handle [] = false := by decide +kernel

theorem test_hyp_ContentionStart :
    let s := fun (w : Bool) (tx : TransmitSet) (h : Timer) =>
      { pack with liu := { pack.liu with wakeRequest := w, tx := tx, holdOff := h } }
    let ok := fun t : State => t.Ready .pack ∧ t.has .lineStuck = false ∧ t.liu.line = .unsettled ∧ t.liu.waiting = none
    let q := asked false
    (ok (s true {} none) ∧ ok (s false {} none)) ∧ (ok (s false ⟨some (asked true), none, none⟩ none)) ∧
    (ok (s false ⟨some q, none, none⟩ none) ∧ q.urgent = false ∧ (some q).any (·.urgent) = false) ∧
    (ok (s false ⟨some q, some q, some q⟩ (some 0)) ∧ (s false ⟨some q, some q, some q⟩ (some 0)).liu.holdOff ≠ none) ∧
    ok (s false ⟨none, none, some q⟩ none) := by decide

theorem test_hyp_SlotWaitExpiry :
    let s := fun (d : State) (k : SendKind) => { d with
      liu := { d.liu with
        line := .quiet, waiting := some ⟨k, 40, 0⟩, tx := ⟨some (asked false), some (asked false), some (asked false)⟩ } }
    let ok := fun (r : Role) (t : State) => t.Runs r ∧ t.receives = true ∧ t.liu.line = .quiet
    (ok .handle (s handle .state) ∧ ok .pack (s pack .state) ∧ ok .dock (s dock .state)) ∧
    ok .pack (s pack .profile) ∧ ok .pack (s pack .reply) ∧
    (s pack .reply).liu.waiting = some ⟨.reply, 40, 0⟩ ∧ (s pack .reply).liu.tx.reply = some (asked false) := by decide

theorem test_hyp_FrameEnds :
    let ok := fun f : OwnFrame => (onLine (.sending f) pack).Runs .pack ∧ (onLine (.sending f) pack).liu.line = .sending f
      ∧ pack.has .lineCrowded = false
    let z := { onLine (.sending { packFrame with doze := true }) pack with ssc.doze := .entering }
    (ok packFrame ∧ packFrame.doze = false ∧ packFrame.kind = .state) ∧
    ok ⟨.profile, .packProfile profile, false, false, 0⟩ ∧ ok ⟨.reply, .reply [0x20], false, false, 0⟩ ∧
    (z.Runs .pack ∧ z.liu.line = .sending { packFrame with doze := true } ∧ z.ssc.doze = .entering ∧
      z.has .lineCrowded = false) := by decide

/-- The doze notice of a DOCK that entered a run while ENTERING. -/
theorem test_hyp_FrameEnds_dock :
    let f : OwnFrame := ⟨.state, .dockStatus offer, false, true, 0⟩
    let z := { onLine (.sending f) workedDock with ssc.doze := .entering, liu.tx.state := some { asked false with attempt := 7 } }
    z.Runs .dock ∧ z.liu.line = .sending f ∧ f.doze = true ∧ z.ssc.doze = .entering ∧ z.has .lineCrowded = false ∧
      z.liu.tx.get f.kind = some { asked false with attempt := 7 } := by decide

theorem test_hyp_FrameEnds_lost :
    let s := fun n : Nat => { onLine (.sending packFrame) pack with liu.tx.state := some { asked false with attempt := n } }
    let z := { s 7 with ssc.doze := .entering, liu.line := .sending { packFrame with doze := true } }
    ((s 6).Runs .pack ∧ (s 6).liu.line = .sending packFrame ∧
      (s 6).liu.tx.get packFrame.kind = some { asked false with attempt := 6 }) ∧
    ((s 7).Runs .pack ∧ (s 7).liu.tx.get packFrame.kind = some { asked false with attempt := 7 } ∧
      Role.pack ≠ .dock ∧ packFrame.doze = false) ∧
    (z.Runs .pack ∧ z.liu.tx.get .state = some { asked false with attempt := 7 } ∧ z.ssc.doze = .entering) := by decide

theorem test_hyp_LineStuckAndClear :
    let x := withList [active .lineStuck] handle
    ((handle.Ready .handle ∧ handle.cdu = [] ∧ handle.mdu.motor = .stopped) ∧
      ((inMotor .run).Ready .handle ∧ (inMotor .run).cdu = [] ∧ (inMotor .run).mdu.motor.driven = true) ∧
      (pack.Ready .pack ∧ pack.cdu = []) ∧ (workedDock.Ready .dock ∧ workedDock.cdu = [] ∧ workedDock.ccu.run = .active)) ∧
    (x.Ready .handle ∧ x.has .lineStuck = true ∧ (∀ f, x.liu.line ≠ .sending f) ∧ x.mdu.trigger = false ∧
      x.mdu.motor = .stopped ∧ { x with liu.wakeRequest := true }.liu.wakeRequest = true) :=
  ⟨⟨by decide, by decide, by decide, by decide⟩, by decide, by decide, notSending _ rfl, by decide⟩

/-- LINE_STUCK in HELD and COAST, and a TRIP raised in each motor state. -/
theorem test_hyp_LineStuckAndClear_coasting :
    let b := { inMotor (.coast .settle) with mdu.bridgeOff := true }
    (∀ m ∈ [Motor.held, .coast .stop, .coast .hold, .coast .retry, .coast .catch_, .coast .settle],
      (inMotor m).Ready .handle ∧ (inMotor m).cdu = []) ∧
    { inMotor (.coast .settle) with mdu.bridgeOff := false }.mdu.bridgeOff = false ∧
    (b.Ready .handle ∧ b.mdu.bridgeOff = true ∧ Aim.settle ≠ .stop ∧ Aim.settle ≠ .hold) ∧
    ((inMotor .held).role = some .handle ∧ Code.startFail.inRole .handle = true ∧ Code.startFail.kind .handle = .trip ∧
      (inMotor .held).has .startFail = false ∧ (inMotor .held 999).mdu.speed < 1000 ∧ 1000 ≤ (inMotor .held 1000).mdu.speed ∧
      (inMotor .run).mdu.motor.driven = true) := by decide

/-- LINE_STUCK alone with the trigger pressed, in each motor state, at each bound of the speed and each state of the PACK
entry; and beside another HOLD. -/
theorem test_hyp_LineStuckAndClear_freed :
    let x := fun (m : Motor) (v : Nat) (st : Freshness) => withList [active .lineStuck]
      { inMotor m v with pv.pack := entry st (some status) }
    let w := fun s : State => { s.advance 0 with cdu := s.cdu.filter (fun x : Record => x.code != Code.lineStuck) }
    let y := withList [active .lineStuck, active .handleOverheat] handle
    (∀ m ∈ [Motor.stopped, .held, .coast .hold], ∀ st ∈ [Freshness.fresh, .stale, .lost, .absent, .dozing],
      (x m 2999 st).Ready .handle ∧ (x m 2999 st).has .lineStuck = true ∧ (x m 2999 st).mdu.trigger = true ∧
        (w (x m 2999 st)).clearToRun = true) ∧
    (((x .held 2999 .fresh).advance 0).mdu.speed < 3000 ∧ 3000 ≤ ((x .held 3000 .fresh).advance 0).mdu.speed ∧
      ((x .held 11999 .fresh).advance 0).mdu.speed < 12000 ∧ 12000 ≤ ((x .held 12000 .fresh).advance 0).mdu.speed) ∧
    (y.Ready .handle ∧ y.has .lineStuck = true ∧ (w y).clearToRun = false) ∧
    (∀ m v st f, (x m v st).liu.line ≠ .sending f) :=
  ⟨by decide, by decide, by decide, fun _ _ _ _ h => nomatch h⟩

theorem test_hyp_WakeFromDoze :
    let h := { asleep handle with pv.pack := entry .dozing (some status) }
    (handle.Runs .handle ∧ handle.ssc.doze = .awake) ∧
    ((asleep handle).Runs .handle ∧ (asleep pack).Runs .pack ∧ (asleep pack).ssc.doze ≠ .awake ∧
      (asleep pack).has .lineStuck = false ∧ (asleep pack).liu.line ≠ .pulsing ∧
      (asleep { dock with ccu.run := .undocked }).Runs .dock) ∧
    (∀ f, (asleep pack).liu.line ≠ .sending f) ∧
    (h.Runs .handle ∧ h.ssc.doze ≠ .awake ∧ h.cdu = [] ∧ h.mdu.motor = .stopped ∧ h.mdu.phaseWatch = none ∧
      h.pv.pack.state = .dozing ∧ h.liu.line = .unsettled) :=
  ⟨by decide, by decide, notSending _ rfl, by decide⟩

/-- Wakes with no request in the set: a HANDLE above V_floor, a docked DOCK whose run goes on, and a PACK that matches the
last status it sent or differs. -/
theorem test_hyp_WakeFromDoze_requests :
    let d := asleep { dock with ccu := { dock.ccu with run := .active, credit := 1 } }
    let p := fun n : PackStatus => { asleep pack with liu.lastPackStatus := some n }
    let same := { status with dsw := 2, field := 0 }
    ((asleep handle).liu.tx.state = none ∧ (asleep handle).settings.handle.vFloor ≤ (asleep handle).hb.vbus) ∧
    (d.Runs .dock ∧ d.liu.tx.state = none ∧ d.ccu.run ≠ .undocked ∧ d.pv.pack.state ≠ .dozing ∧
      d.pv.handle.state ≠ .dozing ∧ d.ccu.credit ≠ 0 ∧ d.hasHold = false ∧ d.hasTrip = false ∧ d.ccu.conv = .off) ∧
    ((p same).Runs .pack ∧ (p same).liu.tx.state = none ∧ (p same).pv.dock.state ≠ .dozing ∧
      same.dsw = (p same).cmu.dsw.wire ∧ same.field = (p same).path.field.wire ∧ same.csw = (p same).cmu.csw) ∧
    (status.dsw ≠ (p status).cmu.dsw.wire ∧ (asleep pack).liu.lastPackStatus = none) := by decide

theorem test_hyp_ProbesCountsAndClears :
    let s := { pack with liu.tx.reply := some (asked false) }
    let f : OwnFrame := ⟨.reply, .reply [0x20], false, false, 0⟩
    (pack.Runs .pack ∧ pack.receives = true) ∧ (pack.Ready .pack ∧ pack.has .lineStuck = false) ∧
    ((¬ (0 = roleCode .pack ∧ ((0 : Half) = 0 ∨ (0 : Half) = pack.tag))) ∧
      ¬ (1 = roleCode .pack ∧ ((5 : Half) = 0 ∨ (5 : Half) = pack.tag))) ∧
    (1 = roleCode .pack ∧ ((0x3A41 : Half) = 0 ∨ (0x3A41 : Half) = pack.tag) ∧ pack.liu.tx.reply = none) ∧
    (s.Ready .pack ∧ s.liu.tx.reply = some (asked false) ∧ ¬ ∃ f, s.liu.line = .sending f ∧ f.kind = .reply) ∧
    ((onLine (.sending f) s).Ready .pack ∧ ∃ f, (onLine (.sending f) s).liu.line = .sending f ∧ f.kind = .reply) :=
  ⟨by decide, by decide, by decide, by decide, ⟨by decide, by decide, fun ⟨_, h, _⟩ => nomatch h⟩, by decide, ⟨.reply, .reply [0x20], false, false, 0⟩, rfl, rfl⟩

theorem test_hyp_ProbesCountsAndClears_clears :
    (pack.Ready .pack ∧ pack.has .lineStuck = false ∧ 1 = roleCode .pack ∧ Role.pack ≠ .dock) ∧
    (dock.Ready .dock ∧ dock.has .lineStuck = false ∧ 2 = roleCode .dock) ∧
    ¬ (0 = roleCode .pack ∧ ((0 : Half) = 0 ∨ (0 : Half) = pack.tag)) := by decide

theorem test_hyp_ServiceRelease :
    let p := withList [⟨.short, 0, 1, .latched⟩] pack
    (handle.Ready .handle ∧ handle.has .lineStuck = false ∧ 0 = roleCode .handle ∧ handle.mdu.motor = .stopped ∧
      handle.mdu.trigger = false) ∧ handle.ListOk ∧
    (dock.Ready .dock ∧ dock.has .lineStuck = false ∧ 2 = roleCode .dock) ∧ dock.ListOk ∧
    (p.Ready .pack ∧ p.has .lineStuck = false ∧ 1 = roleCode .pack ∧ p.cmu.swept = false ∧ p.cmu.dsw = .off) ∧
    p.ListOk ∧ (Code.cellHigh.kind .pack = .trip ∧ Code.cellHigh ≠ .cellLow ∧
      hasActive [active .cellHigh] .cellHigh = true) := by
  unfold State.ListOk; decide

/-- A PACK that has swept, one millivolt above the cell minimum at the least factor of 1 and below it. -/
theorem test_hyp_ServiceRelease_swept :
    let s := withList [⟨.short, 0, 1, .latched⟩] { pack with cmu := { pack.cmu with swept := true, vmin := 3002 } }
    let p := s.settings.pack
    s.Ready .pack ∧ s.cmu.swept = true ∧ s.cmu.dsw = .off ∧ 0 < voltageFactor s.cmu.vmin p.cellMin p.vSoft ∧
      voltageFactor 3001 p.cellMin p.vSoft = 0 := by decide

/-- A record of each id and index that names one, and an index of each kind that names none. -/
theorem test_hyp_ReplyRecords :
    let l := withList [active .lineStuck] handle
    let d := { dock with ccu.history := [⟨1, .complete, 0, 0, 0, 0, 0⟩] }
    (handle.role = some .handle ∧ pack.role = some .pack ∧ d.role = some .dock) ∧
    (l.cdu[0]? = some (active .lineStuck) ∧ l.cdu.length ≤ 1 ∧ pack.cmu.cells[7 - 1]? = some ⟨0, 0, 0, none, none⟩ ∧
      pack.cmu.cells.length < 8 ∧ d.ccu.history[0]? = some ⟨1, .complete, 0, 0, 0, 0, 0⟩ ∧ d.ccu.history.length ≤ 1) ∧
    (15 < 16 ∧ 4 < (5 : BitVec 4).toNat ∧ (1 : BitVec 4).toNat < 2 ∧ (15 : Byte).toNat = 15) := by decide

theorem test_hyp_EntriesAndTheirNotices :
    let e : Freshness → PeerEntry PackStatus := fun st => entry st none
    let h : Sender := { peer with tag := 5 }
    ((e .fresh).tag = some peer.tag ∧ { peer with seq := 2 }.seq = 2 ∧ (2 : BitVec 4) ≠ peer.seq) ∧
    ({ e .fresh with lastSeq := none }.lastSeq = none ∧ (e .fresh).missed ≤ 65535) ∧
    ((e .lost).tag ≠ some h.tag ∧ ((e .lost).state = .absent ∨ (e .lost).state = .stale ∨ (e .lost).state = .lost)) ∧
    ((e .dozing).tag ≠ some h.tag ∧ ((e .dozing).state = .fresh ∨ (e .dozing).state = .dozing)) ∧
    ((handle.Ready .handle ∧ pack.Ready .pack ∧ dock.Ready .dock) ∧ handle.has .lineStuck = false ∧
      pack.has .lineStuck = false ∧ dock.has .lineStuck = false) ∧
    ((e .fresh).judge h = .clash ∧ (e .lost).judge h = .replaced) := by decide

/-- R151: entries created, and entries replaced. -/
theorem test_hyp_EntriesAndTheirNotices_docked :
    let h : Sender := { peer with tag := 5 }
    let s := { handle with pv.dock := entry .lost (some offer) }
    let d := { dock with pv.pack := entry .stale (some status) }
    (handle.pv.dock.state = .absent ∧ handle.pv.dock.tag = none) ∧
    (s.Ready .handle ∧ s.pv.dock.state = .lost ∧ s.pv.dock.tag ≠ some h.tag) ∧
    (dock.pv.pack.state = .absent ∧ dock.pv.pack.tag = none ∧ dock.ccu.run = .idle ∧
      { status with field := 0 }.field ≠ 1) ∧
    (d.Ready .dock ∧ d.pv.pack.state = .stale ∧ d.pv.pack.tag ≠ some h.tag ∧ d.ccu.run = .idle) := by decide

theorem test_hyp_PackStatusAtHandle :
    let s := fun (d : State) (st : Freshness) => { d with pv.pack := entry st (some status) }
    let base := fun t : State => t.Ready .handle ∧ t.has .lineStuck = false ∧ t.pv.pack.tag = some peer.tag ∧
      t.pv.pack.lastSeq = some 2 ∧ 2 ≠ peer.seq ∧ peer.doze = false
    let w := s { inMotor .stopped 2999 with mdu.wakeWait := some 0 } .absent
    (base (s handle .fresh) ∧ (s handle .fresh).pv.pack.state = .fresh ∧ calm.kind ≠ 3 ∧
      (s handle .fresh).has .packTripped = false) ∧
    (base (s (inMotor .run) .fresh) ∧ (s (inMotor .run) .fresh).cdu = [] ∧
      (s (inMotor .run) .fresh).mdu.motor.driven = true ∧ (Summary.mk 13 3 1).kind = 3 ∧
      ((Summary.mk 13 3 1).scope = 1 ∨ (Summary.mk 13 3 1).scope = 3)) ∧
    (base w ∧ w.pv.pack.state ≠ .fresh ∧ w.has .packTripped = false ∧ w.mdu.motor = .stopped ∧
      w.mdu.wakeWait.isSome = true ∧ w.mdu.speed < 3000) := by decide

theorem test_hyp_PackStatusAtDock :
    let s := fun (c : Ccu) (slot : Option ProfileSlot) => { dock with
      ccu := c, pv := { dock.pv with pack := entry .fresh (some status), slot := slot } }
    let base := fun t : State => t.Ready .dock ∧ t.cdu = [] ∧ t.pv.pack.tag = some peer.tag ∧
      t.pv.pack.lastSeq = some 2 ∧ 2 ≠ peer.seq ∧ t.pv.pack.state = .fresh
    let c := dock.ccu
    let credit := fun (a : Half) => a - { c with baseline := 100 }.baseline - { c with delivered := 0 }.delivered
    (peer.doze = false ∧ { peer with doze := true }.doze = true ∧ RunState.active.running = true ∧
      RunState.suspended.running = true) ∧
    (base (s c (some ⟨profile, 2⟩)) ∧ c.run = .idle ∧ status.field = 1 ∧ { status with field := 5 }.field ≠ 1) ∧
    base (s c none) ∧
    ((s c none).settings.dock.strict = true ∧
      { s c none with settings.dock.strict := false }.settings.dock.strict = false) ∧
    (base (s { c with run := .offer } (some ⟨profile, 2⟩)) ∧
      (s { c with run := .offer } (some ⟨profile, 2⟩)).pv.handle.state = .absent) ∧
    base (s { c with run := .offer, strictWait := true } none) ∧
    (base (s { c with run := .active } (some ⟨profile, 2⟩)) ∧ base (s { c with run := .suspended } none) ∧
      base (s { c with run := .rest } none)) ∧
    ((credit 32867).toNat < 32768 ∧ 32768 ≤ (credit 32868).toNat) :=
  ⟨by decide, by decide, by decide, by decide, by decide, by decide, by decide, by decide⟩

/-- The drawing HANDLE of a run that goes on suspended. -/
theorem test_hyp_PackStatusAtDock_drawing :
    let s := { dock with
      ccu := { dock.ccu with run := .active }
      pv := { dock.pv with
        pack := entry .fresh (some status), handle := entry .fresh (some { still with motor := 3 }) } }
    s.Ready .dock ∧ s.cdu = [] ∧ ∃ d, s.pv.handle.state = .fresh ∧ s.pv.handle.stored = some d ∧ d.motor ≠ 0 :=
  ⟨by decide, rfl, _, rfl, rfl, by decide⟩

theorem test_hyp_ProfileLoadsTheSlot :
    let s := fun (st : Freshness) (slot : Option ProfileSlot) => { dock with
      pv := { dock.pv with pack := { entry st (some status) with lastProfileSeq := some 2 }, slot := slot } }
    let other : Sender := { peer with tag := 5 }
    ((s .fresh none).Ready .dock ∧ (s .fresh none).has .lineStuck = false ∧ Role.dock ≠ .pack) ∧
    ((s .fresh none).pv.pack.tag = some peer.tag ∧ (s .fresh none).pv.pack.lastProfileSeq = some 2 ∧ 2 ≠ peer.seq ∧
      (s .fresh none).pv.slot = none) ∧
    ({ profile with revision := 1 }.revision ≠ profile.revision) ∧
    ((s .dozing (some ⟨profile, 2⟩)).pv.pack.tag ≠ some other.tag ∧
      ((s .dozing none).pv.pack.state = .fresh ∨ (s .dozing none).pv.pack.state = .dozing)) ∧
    ((s .stale none).pv.pack.state ≠ .fresh ∧ (s .stale none).pv.pack.state ≠ .dozing) := by decide

/-- A profile that loads the slot: at a HANDLE, and at a DOCK in OFFER that holds a status of field 2 or 1, held or not. -/
theorem test_hyp_ProfileLoadsTheSlot_loads :
    let s := fun (d : State) (f : BitVec 3) (run : RunState) (slot : Option ProfileSlot) => { d with
      ccu.run := run
      pv := { d.pv with pack := entry .fresh (some { status with field := f }), slot := slot } }
    let hold := withList [active .dockOverheat] (s dock 2 .offer none)
    let driven := { s dock 2 .offer none with pv.handle := entry .fresh (some { still with motor := 3 }) }
    let old : ProfileSlot := ⟨{ profile with revision := 1 }, 2⟩
    ((s handle 1 .undocked none).Ready .handle ∧ (s handle 1 .undocked none).pv.pack.tag = some peer.tag ∧
      (s handle 1 .undocked none).pv.pack.state = .fresh ∧ peer.doze = false ∧
      (s handle 1 .undocked none).pv.slot = none) ∧
    ((s dock 2 .offer (some old)).pv.slot = some old ∧ old.profile.revision ≠ profile.revision) ∧
    ((s dock 2 .offer none).Ready .dock ∧ (s dock 2 .offer none).ccu.run = .offer ∧
      (s dock 2 .offer none).pv.pack.stored = some { status with field := 2 } ∧ { status with field := 2 }.field = 2 ∧
      (s dock 2 .offer none).hasHold = false ∧ (s dock 2 .offer none).pv.handle.stored = none) ∧
    (hold.Ready .dock ∧ hold.hasHold = true) ∧
    (driven.Ready .dock ∧ driven.pv.handle.stored = some { still with motor := 3 } ∧ driven.pv.handle.state = .fresh ∧
      { still with motor := 3 }.motor ≠ 0) ∧
    ((s dock 1 .offer none).Ready .dock ∧ { status with field := 1 }.field ≠ 2) ∧
    ((s dock 2 .idle none).Ready .dock ∧ (s dock 2 .idle none).ccu.run = .idle) := by decide

theorem test_hyp_DrawAtPackAndDock :
    let s := fun d : State => { d with pv.handle := entry .fresh (some still) }
    let base := fun (r : Role) (t : State) => t.Ready r ∧ t.has .lineStuck = false ∧ t.pv.handle.tag = some peer.tag ∧
      t.pv.handle.lastSeq = some 2 ∧ 2 ≠ peer.seq ∧ peer.doze = false ∧ t.pv.handle.state = .fresh
    let cut := s { pack with cmu.dsw := .cutPending }
    let low := withList [active .cellLow] { cut with path.field := .accept, cmu.vmin := 3200, cmu.current := -100 }
    let run := s { dock with ccu := { dock.ccu with run := .suspended, credit := 1 } }
    (base .pack cut ∧ cut.cmu.dsw = .cutPending ∧ cut.has .cellLow = false ∧ still.motor = 0 ∧
      (50 : Half).toNat ≤ 50 ∧ { still with motor := 3 }.motor ≠ 0 ∧ 50 < (51 : Half).toNat) ∧
    (base .pack low ∧ low.has .cellLow = true ∧ low.cmu.dsw = .cutPending ∧
      ¬ low.settings.pack.cellMin + 200 < low.cmu.vmin) ∧
    (base .pack (s pack) ∧ (s pack).cmu.dsw ≠ .cutPending) ∧
    (base .dock (s workedDock) ∧ (s workedDock).ccu.run = .active) ∧
    (base .dock (s { dock with ccu.run := .suspended }) ∧ dock.hasHold = false ∧ dock.ccu.conv = .off ∧
      dock.ccu.credit = 0) ∧
    (base .dock run ∧ run.ccu.credit ≠ 0 ∧ run.hasHold = false ∧ run.hasTrip = false ∧ run.ccu.conv = .off) :=
  ⟨by decide, by decide, by decide, by decide, by decide, by decide⟩

theorem test_hyp_DockStatusAtPackAndHandle :
    let s := fun (d : State) => { d with pv.dock := entry .fresh (some offer) }
    let base := fun (r : Role) (t : State) => t.Ready r ∧ t.has .lineStuck = false ∧ t.pv.dock.tag = some peer.tag ∧
      t.pv.dock.lastSeq = some 2 ∧ 2 ≠ peer.seq ∧ peer.doze = false ∧ t.pv.dock.state = .fresh
    let a := s { pack with path.field := .accept }
    base .handle (s handle) ∧ (base .pack (s wanting) ∧ (s wanting).path.field = .want ∧ offer.run = 2 ∧
      (s wanting).chargeHeld = false) ∧
    (base .pack a ∧ a.path.field = .accept ∧ a.path.notedRun = none ∧ a.path.baseAllowance = a.path.allowance ∧
      a.path.baseReceived = a.path.received ∧ 2 ≤ a.settings.pack.grantStep ∧ a.settings.pack.grantStep ≤ 1000 ∧
      { offer with run := 3 }.run = 3 ∧ { offer with run := 1 }.run = 1 ∧ { offer with run := 5 }.run = 5) := by decide

theorem test_hyp_RaiseRecord :
    let s := withList [active .handleHot] handle
    let l := withList [⟨.startFail, 0, 1, .latched⟩] handle
    Code.cellLow.inRole .handle = false ∧ (Code.lineStuck.inRole .handle = true ∧ s.has .lineStuck = false) ∧
    s.ListOk ∧ (Code.handleHot.inRole .handle = true ∧ s.has .handleHot = true) ∧
    (hasActive s.cdu .handleHot = true ∧ hasLatched s.cdu .handleHot = false) ∧
    (Code.startFail.inRole .handle = true ∧ hasLatched l.cdu .startFail = true ∧ l.ListOk) ∧
    (headLevel .handle s.cdu < headLevel .handle (s.raiseRec .lineStuck).cdu ∧ s.publishes = true) := by
  unfold State.ListOk; decide

theorem test_hyp_AnnouncementRequest :
    let t : Tiu := { level := 7, playing := some ⟨.code .brushJam, 7, 0, 0, .pulse⟩ }
    let b : Waiting := ⟨.docked, 1, false⟩
    let full : Tiu := { t with stack := [⟨.code .packLost, 6, false⟩, ⟨.code .handleHot, 5, false⟩,
      ⟨.code .dirtSensorFault, 2, false⟩, b] }
    (Item.code .roleClash).pattern = some patternC ∧ (({} : Tiu).level < 8 ∧ ({} : Tiu).playing = none) ∧
    (t.level < 8 ∧ t.playing = some ⟨.code .brushJam, 7, 0, 0, .pulse⟩ ∧ t.stack.length < 4) ∧
    (full.stack.length = 4 ∧ full.stack.getLast? = some b ∧ b.removed = false ∧ full.playing.isSome = true ∧
      ∀ w ∈ full.waiting, w.level ≠ b.level) ∧
    ({ b with removed := true }.removed = true ∧ ∃ w ∈ { full with waiting := [b] }.waiting, w.level = b.level) ∧
    7 ≤ t.level ∧ (Item.code .busLow).pattern = none :=
  ⟨by decide, by decide, by decide, by decide, ⟨rfl, ⟨.docked, 1, false⟩, by decide⟩, by decide⟩

/-- A tone unit in order, with a pending entry of the level that is asked for. -/
theorem test_hyp_AnnouncementRequest_order :
    let t : Tiu := { level := 7, playing := some ⟨.code .brushJam, 7, 0, 0, .pulse⟩, waiting := [⟨.docked, 7, false⟩] }
    t.Ok ∧ 7 ≤ t.level := by
  refine ⟨⟨?_, ?_, ?_⟩, by decide⟩
  · intro p h
    cases h
    decide
  · intro h
    cases h
  · unfold Waiting.Ok
    decide

theorem test_hyp_AnnouncementRequest_end :
    let x : Waiting := ⟨.code .packLost, 6, false⟩
    let gone : Waiting := { x with removed := true }
    let t := fun (st pend : List Waiting) => { ({} : Tiu) with level := 7, stack := st, waiting := pend }
    let pending := fun u : Tiu => u.waiting.filter (fun w => !w.removed)
    ((t [] [gone]).stack = [] ∧ pending (t [] [gone]) = []) ∧
    (pending (t [] [gone, ⟨.docked, 1, false⟩]) = [⟨.docked, 1, false⟩] ∧
      (∀ y, (t [] [⟨.docked, 1, false⟩]).stack.head? = some y → y.level < 1) ∧ Item.docked.pattern.isSome = true) ∧
    (pending (t [x] [⟨.code .brushJam, 7, false⟩]) = [⟨.code .brushJam, 7, false⟩] ∧
      (∀ y, (t [x] []).stack.head? = some y → y.level < 7)) ∧
    ((t [x] [x]).stack = [x] ∧ x.removed = false ∧ (∀ w, (pending (t [x] [x])).head? = some w → w.level ≤ x.level) ∧
      x.item.pattern.isSome = true) ∧
    ((t [gone] [x]).stack = [gone] ∧ gone.removed = true ∧
      ∀ w, (pending (t [gone] [x])).head? = some w → w.level ≤ gone.level) :=
  ⟨by decide, ⟨by decide, (fun _ h => nomatch h), by decide⟩, ⟨by decide, (fun _ h => by cases h; decide)⟩,
    ⟨by decide, by decide, (fun _ h => by cases h; decide), by decide⟩,
    ⟨by decide, by decide, (fun _ h => by cases h; decide)⟩⟩

theorem test_hyp_RequestsAndRemovals :
    let s := { pack with liu.tx.state := some (asked false) }
    let l := withList [active .lineStuck] handle
    let t : Tiu := { level := 8, playing := some ⟨.code .lineStuck, 8, 0, 0, .pulse⟩ }
    ((asleep pack).ssc.doze = .dozing ∧ State.reset.role ≠ none ∧ { dock with ccu.run := .undocked }.role = some .dock) ∧
    (pack.role ≠ none ∧ pack.ssc.doze ≠ .dozing ∧ pack.role ≠ some .dock ∧ pack.liu.tx.state = none) ∧
    (s.liu.tx.state = some (asked false) ∧ (∀ f, s.liu.line ≠ .sending f)) ∧
    ((onLine (.sending packFrame) s).liu.line = .sending packFrame ∧ packFrame.kind = .state) ∧
    (handle.has .lineStuck = false ∧ l.has .lineStuck = true) ∧
    (t.playing = some ⟨.code .lineStuck, 8, 0, 0, .pulse⟩ ∧ (Item.code .lineStuck).pattern = some patternC ∧
      patternC.repeats ≠ none) ∧
    ((Item.code .motorOvercurrent).pattern.any (fun q => q.repeats == none) = true) ∧
    (Block.ccu = Code.supplyWeak.source ∧ Code.supplyWeak.kind .dock ≠ .trip ∧ Code.startFail.kind .handle = .trip ∧
      Block.mdu = Code.startFail.source ∧ Block.mdu ≠ Code.supplyWeak.source) :=
  ⟨by decide, by decide, ⟨rfl, notSending _ rfl⟩, by decide, by decide, by decide, by decide, by decide⟩

theorem test_hyp_GrantComputation :
    let r := inMotor .run
    (handle.mdu.motor ≠ .run ∧ handle.mdu.motor.driven = false ∧ handle.settings.handle.vFloor ≤ handle.hb.vbus) ∧
    (r.mdu.motor = .run ∧ r.settings.handle.vFloor ≤ r.hb.vbus) ∧ (inMotor .align).mdu.motor = .align ∧
    { handle with hb.vbus := 899 }.hb.vbus < handle.settings.handle.vFloor ∧
    { handle with hb.vbus := 900 }.settings.handle.vFloor ≤ { handle with hb.vbus := 900 }.hb.vbus := by decide

theorem test_hyp_MotorStateChange :
    handle.role = some .handle ∧ (inMotor .run).mdu.motor = .run ∧ handle.mdu.motor = .stopped ∧
    handle.ssc.doze ≠ .dozing ∧ handle.head.output = .off ∧ { handle with head.output := .on }.head.output = .on ∧
    { handle with head.output := .lockedOff }.head.output = .lockedOff := by decide

theorem test_hyp_PublishPeriodExpiry :
    let s := fun (d : State) => { d with pv.publishTimer := some 0 }
    let n := fun k : Nat => withList [active .roleClash] { s handle with pv.quietCount := k }
    let p := fun k : Nat => { s pack with pv.profileCount := k }
    ((s handle).Ready .handle ∧ (s handle).pv.publishTimer.isSome = true ∧ (s handle).has .roleClash = false ∧
      (s handle).pv.pack.state = .absent ∧ (s handle).pv.dock.state = .absent ∧ (s handle).liu.tx.state = none ∧
      (s handle).pv.slot = none ∧ (s handle).pv.behind = false) ∧
    ((n 18).Ready .handle ∧ (n 18).has .roleClash = true ∧ (n 18).pv.quietCount < 19 ∧ (n 19).pv.quietCount = 19) ∧
    ((p 98).Ready .pack ∧ (p 98).pv.profileCount < 99 ∧ (p 99).pv.profileCount = 99) := by decide

/-- The ages 7 and 39, at which an entry goes to LOST and to ABSENT, and what each block has in hand there. -/
theorem test_hyp_PublishPeriodExpiry_changes :
    let tick := fun s : State => { s with pv.publishTimer := some 0 }
    let h := tick { inMotor .run with pv.pack := aging .stale 7 (some status) }
    let d := fun (r : RunState) => tick { dock with ccu := { dock.ccu with run := r }, pv.pack := aging .lost 39 (some status) }
    let w := tick { dock with
      ccu := { dock.ccu with run := .suspended }
      pv := { dock.pv with pack := aging .fresh 0 (some status), handle := aging .stale 7 (some still) } }
    let p := fun (f : PathField) (st : Freshness) (k : Nat) => tick { pack with
      path := { pack.path with field := f }, pv.dock := aging st k (some offer) }
    let q := fun k l : Nat => withList [active .roleClash] { p .accept .fresh 2 with pv.quietCount := k, pb.chargeLimit := l }
    (h.Ready .handle ∧ h.pv.publishTimer.isSome = true ∧ h.pv.pack.age + 1 = 8 ∧ h.mdu.motor ≠ .stopped) ∧
    ((d .rest).Ready .dock ∧ (d .rest).pv.pack.age + 1 = 40 ∧ (d .offer).ccu.run = .offer ∧
      (d .active).ccu.run.running = true) ∧
    (w.Ready .dock ∧ w.ccu.run = .suspended ∧ w.hasHold = false ∧ w.pv.handle.age + 1 = 8 ∧ w.pv.pack.age + 1 = 1) ∧
    ((tick { dock with ccu.run := .undocked }).Ready .dock ∧ (d .rest).ccu.run ≠ .undocked) ∧
    ((p .accept .stale 7).Ready .pack ∧ (p .accept .stale 7).path.field = .accept) ∧
    ((p .accept .fresh 2).Ready .pack ∧ (p .accept .fresh 2).pv.dock.age + 1 = 3 ∧
      (p .accept .fresh 2).has .roleClash = false) ∧
    ((q 18 60).Ready .pack ∧ (q 18 60).has .roleClash = true ∧ (q 18 60).pv.quietCount < 19 ∧
      (q 19 0).pb.chargeLimit = 0) ∧
    ((p .want .fresh 2).Ready .pack ∧ (p .want .fresh 2).path.field ≠ .accept) :=
  ⟨by decide, by decide, by decide, by decide, by decide, by decide, by decide, by decide⟩

theorem test_hyp_BudgetAndDockPeriods :
    let g := fun s : State => State.computeGrant true { s.advance 0 with hb := { s.hb with timer := some 0, vbus := 2000 } }
    let full := { (inMotor .run) with
      hb := { handle.hb with pGrant := 1500, equal := 99 }
      pv := { handle.pv with pack := entry .fresh (some { status with dischargeLimit := 200 }) } }
    let n := fun k : Nat => { inMotor .run with hb := { handle.hb with limited := k } }
    (handle.Ready .handle ∧ handle.hb.timer.isSome = true ∧ handle.settings.handle.vFloor ≤ 900 ∧
      handle.has .supplyLost = false ∧ handle.mdu.motor ≠ .run) ∧
    ((n 198).Ready .handle ∧ (g (n 198)).hb.pGrant < (g (n 198)).hb.pMode ∧ (n 198).hb.limited < 199 ∧
      (n 199).hb.limited = 199) ∧
    (full.Ready .handle ∧ full.hb.timer.isSome = true ∧ (g full).hb.pMode ≤ (g full).hb.pGrant ∧ 99 ≤ full.hb.equal ∧
      { full with hb.equal := 98 }.hb.equal < 99) ∧
    (899 < handle.settings.handle.vFloor ∧ { handle with hb.belowFloor := 1 }.hb.belowFloor < 2 ∧
      { inMotor .run with hb.belowFloor := 2 }.hb.belowFloor = 2 ∧ (inMotor .run).cdu = []) := by decide

theorem test_hyp_TemperatureFactor : { pack with cmu.swept := true }.cmu.swept = true := by decide

theorem test_hyp_BudgetAndDockPeriods_dock :
    (dock.Ready .dock ∧ dock.db.timer.isSome = true ∧ dock.has .dockHot = false ∧ dock.has .dockOverheat = false) ∧
    ((69 : Int) < dock.settings.dock.tD1 ∧ (69 : Int) < dock.settings.dock.tD2) ∧
    (dock.db.cap ≤ 30 ∧ 30 < { dock with db.cap := 31 }.db.cap) ∧
    (dock.settings.dock.tD1 ≤ 70 ∧ dock.settings.dock.tD2 ≤ 85) := by decide

/-- DOCK_HOT and DOCK_OVERHEAT at the bounds below which they go. -/
theorem test_hyp_BudgetAndDockPeriods_clears :
    let s := withList [active .dockOverheat] { dock with ccu := { dock.ccu with run := .suspended } }
    let d := s.settings.dock
    (s.Ready .dock ∧ s.db.timer.isSome = true ∧ s.cdu = [⟨.dockOverheat, 0, 1, .active⟩] ∧ s.ccu.run = .suspended ∧
      s.pv.handle.state = .absent) ∧
    ((64 : Int) < d.tD1 - 5 ∧ d.tD1 - 5 ≤ 65 ∧ (69 : Int) < d.tD1) ∧
    ((79 : Int) < d.tD2 - 5 ∧ d.tD2 - 5 ≤ 80 ∧ (84 : Int) < d.tD2) := by decide

theorem test_hyp_TemperatureReadings :
    let p := pack.settings.pack
    (pack.Ready .pack ∧ pack.cmu.swept = false ∧ pack.cdu = [] ∧ max (-40) (min 125 59) < p.tHot2) ∧
    { pack with cmu.swept := true }.Ready .pack ∧ (p.tHot2 ≤ max (-40) (min 125 (60 : Int))) ∧
    (pack.ChargeSafe ∧ pack.DischargeSafe) ∧
    (handle.Runs .handle ∧ handle.has .handleHot = false ∧ handle.has .handleOverheat = false ∧
      (75 : Int) ≤ 75 ∧ (80 : Int) ≤ 80 ∧ (74 : Int) < 75 ∧ (80 : Int) < 81 ∧ (95 : Int) ≤ 95 ∧ (95 : Int) < 96 ∧
      (inMotor .run).Runs .handle ∧ (inMotor .run).cdu = [] ∧ (inMotor .run).mdu.motor = .run) := by
  unfold State.ChargeSafe State.DischargeSafe; decide

/-- PACK_HOT at the bounds below which it goes. -/
theorem test_hyp_TemperatureReadings_clears :
    let s := withList [active .packHot] { pack with cmu := { pack.cmu with swept := true, vmin := 3500 } }
    let p := s.settings.pack
    (s.Ready .pack ∧ s.ChargeSafe ∧ s.cdu = [⟨.packHot, 0, 1, .active⟩] ∧
      0 < voltageFactor s.cmu.vmin p.cellMin p.vSoft) ∧
    (max (-40) (min 125 54) < p.tHot2 - 5 ∧ p.tHot2 - 5 ≤ max (-40) (min 125 55) ∧ max (-40) (min 125 59) < p.tHot2) := by
  unfold State.ChargeSafe; decide

theorem test_hyp_IdleTimer :
    let s := fun d : State => { d with ssc.idleTimer := some 0 }
    let c := fun d : State => { d with ssc.idleTimer := some 0, ssc.causeAt := some 0 }
    let u := { dock with ccu.run := .undocked }
    (∀ f, (s pack).liu.line ≠ .sending f) ∧ (∀ f, (s dock).liu.line ≠ .sending f) ∧
    (∀ f, (s handle).liu.line ≠ .sending f) ∧
    ((s pack).Ready .pack ∧ (s pack).ssc.idleTimer.isSome = true ∧ (s pack).ssc.causeAt ≠ some ((s pack).clock + 0)) ∧
    ((s dock).Ready .dock ∧ (s dock).ccu.run ≠ .undocked) ∧
    ((s u).Ready .dock ∧ (s handle).Ready .handle ∧ (s handle).dsu.boost = 0) ∧
    ((c pack).Ready .pack ∧ (c pack).ssc.causeAt = some ((c pack).clock + 0)) ∧
    (handle.Ready .handle ∧ handle.mdu.phaseWatch = none ∧ u.Ready .dock ∧ u.ccu.run = .undocked) :=
  ⟨notSending _ rfl, notSending _ rfl, notSending _ rfl, by decide, by decide, by decide, by decide, by decide⟩

/-- A gauge press at a running PACK: a command of the last clause, with the timer running and not running before it. -/
theorem test_hyp_IdleTimer_runs :
    let s := { pack with ssc.idleTimer := some 0 }
    (pack.Runs .pack ∧ pack.ssc.idleTimer = none ∧ s.Runs .pack ∧ s.ssc.idleTimer = some 0) ∧
    (∃ t, exec (.gaugePress 0) pack = .next t) ∧ (∃ t, exec (.gaugePress 0) s = .next t) ∧
    (∀ dt straps tag block, Instr.gaugePress 0 ≠ .powerOnReset dt straps tag block) ∧
    (∀ dt tag block, Instr.gaugePress 0 ≠ .supplyDipReset dt tag block) ∧
    (∀ dt f, Instr.gaugePress 0 ≠ .endOfStartUp dt f) ∧ (∀ dt b, Instr.gaugePress 0 ≠ .supplyFall dt b) ∧
    (∀ dt, Instr.gaugePress 0 ≠ .idleTimerExpiry dt) :=
  ⟨by decide, ⟨_, rfl⟩, ⟨_, rfl⟩, by simp⟩

theorem test_hyp_TriggerPress :
    let s := fun (m : Motor) (v : Nat) (st : Freshness) => { inMotor m v with pv.pack.state := st }
    let stuck := withList [active .lineStuck] (inMotor .stopped)
    let w := { handle with mdu.phaseWatch := some 0 }
    (w.Ready .handle ∧ w.mdu.phaseWatch.isSome = true) ∧
    (∀ dt, Instr.triggerPress dt = .triggerPress dt ∧ handle.mdu.phaseWatch = none) ∧
    (∀ dt, Instr.phaseWatchEnd dt true = .phaseWatchEnd dt true ∧ w.mdu.phaseWatch.isSome = true) ∧
    (stuck.Ready .handle ∧ stuck.mdu.motor = .stopped ∧ stuck.clearToRun = false) ∧
    ((s .stopped 2999 .stale).Ready .handle ∧ (s .stopped 2999 .stale).clearToRun = true ∧
      ((s .stopped 2999 .stale).advance 0).mdu.speed < 3000) ∧
    (3000 ≤ ((s .stopped 3000 .fresh).advance 0).mdu.speed ∧ ((s .stopped 11999 .fresh).advance 0).mdu.speed < 12000 ∧
      12000 ≤ ((s .stopped 12000 .fresh).advance 0).mdu.speed) ∧
    ((s .stopped 0 .lost).Ready .handle ∧ (s .stopped 0 .dozing).Ready .handle ∧
      (s .stopped 0 .dozing).mdu.phaseWatch = none) ∧
    (withList [active .startFail] (inMotor (.coast .stop))).hasTrip = true ∧
    (withList [active .lineStuck] (inMotor (.coast .stop))).hasHold = true ∧
    (withList [active .lineStuck] { inMotor (.coast .stop) with mdu.bridgeOff := false }).hasTrip = false ∧
    ((inMotor (.coast .stop) 12000).clearToRun = true ∧ 12000 ≤ ((inMotor (.coast .stop) 12000).advance 0).mdu.speed) :=
  ⟨by decide, fun _ => ⟨rfl, rfl⟩, fun _ => ⟨rfl, rfl⟩, by decide, by decide, by decide, by decide, by decide, by decide,
    by decide, by decide⟩

theorem test_hyp_TriggerRelease :
    let calm := fun s : State => s.Runs .handle ∧ s.mdu.phaseWatch = none ∧ s.has .dirtSensorFault = false ∧
      latchedCodes s.cdu = [] ∧ s.head.output ≠ .lockedOff
    calm handle ∧ (calm (inMotor .ramp) ∧ (inMotor .ramp).mdu.motor.driven = true) ∧ calm (inMotor (.coast .retry)) ∧
    (calm (inMotor .held 999) ∧ ((inMotor .held 999).advance 0).mdu.speed < 1000 ∧
      1000 ≤ ((inMotor .held 1000).advance 0).mdu.speed) ∧
    ((withList [active .startFail] handle).ListOk ∧ hasActive [active .startFail] .startFail = true ∧
      Code.startFail.kind .handle = .trip) ∧
    { handle with head.output := .lockedOff }.head.output = .lockedOff := by
  unfold State.ListOk; decide

theorem test_hyp_MotorTimers :
    let w := { inMotor .stopped 2999 with mdu.wakeWait := some 0 }
    let r := fun st : Freshness => { inMotor (.coast .retry) 2999 with mdu.retryTimer := some 0, pv.pack.state := st }
    let h := withList [active .lineStuck] (r .fresh)
    (w.Runs .handle ∧ w.mdu.wakeWait.isSome = true ∧ (w.advance 0).mdu.speed < 3000) ∧
    (inMotor .align).Runs .handle ∧ ({ inMotor .ramp with mdu.failedStarts := 1 }.mdu.failedStarts < 2) ∧
    ({ inMotor .ramp with mdu.failedStarts := 2 }.mdu.failedStarts = 2 ∧ (inMotor .ramp).has .startFail = false) ∧
    ((r .fresh).Runs .handle ∧ (r .fresh).mdu.retryTimer.isSome = true ∧ (r .fresh).mdu.trigger = true ∧
      (r .fresh).clearToRun = true ∧ ((r .fresh).advance 0).mdu.speed < 3000 ∧ (r .dozing).pv.pack.state = .dozing) ∧
    (h.Runs .handle ∧ h.hasHold = true ∧ h.hasTrip = false ∧ h.mdu.bridgeOff = true) := by decide

/-- At 78,000 rpm with 2 pole pairs the interval is 64 us and the window 32 to 96 us after the reference. -/
theorem test_hyp_ZeroCrossing :
    let s := fun (m : Motor) (c : Nat) => { inMotor m 78000 with
      clock := c, mdu.lastValid := some 0, mdu.lastCommutation := some 0 }
    (∀ m, (s .run 96).mdu.lastValid = some m → m ≤ ((s .run 96).advance 0).clock) ∧
    ((s .run 96).Runs .handle ∧ (10000000 / (2 * ((s .run 96).advance 0).mdu.speed) = 64 ∧ 2 * 96 ≤ 3 * 64 ∧
      64 ≤ 2 * 32 ∧ ¬ 2 * 97 ≤ 3 * 64)) ∧
    ((s .ramp 8333).Runs .handle ∧ 10000000 / (2 * 600) = 8333 ∧ 8333 ≤ 2 * 8333 ∧ 2 * 8333 ≤ 3 * 8333) ∧
    ({ (s .ramp 8333).mdu with validCount := 22 }.validCount < 23) ∧
    ((s (.coast .catch_) 96).Runs .handle ∧ (s .align 96).Runs .handle ∧ (s .held 96).Runs .handle ∧
      (s (.coast .catch_) 96).mdu.validCount < 23 ∧ { (s (.coast .catch_) 96).mdu with validCount := 22 }.validCount < 23 ∧
      (s (.coast .settle) 96).Runs .handle ∧ (s (.coast .settle) 96).mdu.motor = .coast .settle ∧ Aim.settle ≠ .catch_) :=
  ⟨fun _ h => by cases h; decide, by decide⟩

theorem test_hyp_MissedCrossingsAndFallingSpeed :
    let r := fun (n : Nat) (l : List Nat) => { inMotor .run with mdu.missCount := n, mdu.lockLoss := l, clock := 10000000 }
    let past := fun l : List Nat => l.filter (fun x => decide (10000000 - x ≤ 10000000))
    ((r 4 []).Runs .handle ∧ (r 4 []).mdu.missCount < 5 ∧ (r 5 []).mdu.missCount = 5 ∧ (r 5 []).cdu = []) ∧
    ((past [0]).length < 2 ∧ 2 ≤ (past [0, 1]).length) ∧
    ((inMotor .ramp).Runs .handle ∧ (inMotor (.coast .catch_)).Runs .handle ∧
      (inMotor (.coast .catch_)).has .lockLost = false ∧ (inMotor .run).mdu.motor ≠ .coast .catch_) ∧
    ({ inMotor (.coast .settle) with pv.pack.state := .stale }.pv.pack.state = .stale) ∧
    (inMotor (.coast .stop)).Runs .handle := by decide

theorem test_hyp_MotorSamplesAndBridge :
    let s := fun (cur tgt : Nat) => { inMotor .run with mdu.sCur := cur, mdu.sTgt := tgt }
    ((s 78000 78000).Runs .handle ∧ (s 78000 78000).mdu.sCur ≤ (s 78000 78000).mdu.sTgt ∧
      (s 78000 77999).mdu.sTgt < (s 78000 77999).mdu.sCur) ∧
    ((inMotor .align).mdu.motor.driven = true ∧ (inMotor .align).hb.iMot < 1 ∧ 0 ≤ (inMotor .align).hb.iMot) ∧
    ((inMotor .ramp).mdu.drive < 5 ∧ 1000 * 600 / 120000 = 5 ∧ { inMotor .ramp with mdu.drive := 6 }.mdu.drive = 6 ∧
      { inMotor .ramp with mdu.drive := 5 }.mdu.drive = 5) ∧
    (handle.mdu.motor.driven = false ∧ (inMotor .run).has .motorOvercurrent = false) ∧
    ((inMotor (.coast .stop)).Runs .handle ∧ Aim.stop ≠ .hold ∧ (inMotor (.coast .stop)).has .lockLost = false) ∧
    ((inMotor (.coast .hold) 11999).Runs .handle ∧ ((inMotor (.coast .hold) 11999).advance 0).mdu.speed < 12000) ∧
    ((inMotor .stopped 11999).Runs .handle ∧ (inMotor .stopped 11999).mdu.motor = .stopped ∧
      (inMotor .stopped 11999).has .lockLost = false ∧ ((inMotor .stopped 11999).advance 0).mdu.speed < 12000) ∧
    ((inMotor .held).Runs .handle ∧ (inMotor .held).mdu.motor = .held) :=
  ⟨by decide, by decide, by decide, by decide, by decide, by decide, by decide, by decide⟩

/-- The default band of section 3.2: 85,000 to 90,000 in hundreds, its middle, its ends, and a band with no inside. -/
theorem test_hyp_SpeedTargetOutsideBand :
    (handle.Runs .handle ∧ (900 : Nat) ≤ 900 ∧ (850 : Nat) < 851 ∧ 84999 < 850 * 100 ∧ 900 * 100 < 90001) ∧
    (850 * 100 ≤ 87499 ∧ 87499 - 850 * 100 < 900 * 100 - 87499) ∧ (900 * 100 - 87500 ≤ 87500 - 850 * 100) ∧
    ((100 : Nat) ≤ 100 ∧ (1199 : Nat) ≤ 1199) := by decide

theorem test_hyp_ModePressHeadAndPiezo :
    let h := fun (o : HeadOutput) (l : List Nat) => { handle with
      head := { handle.head with output := o, jamHistory := l, jamTimer := some 0 }, clock := 30000000 }
    let past := fun l : List Nat => l.filter (fun x => decide (30000000 - x ≤ 30000000))
    (handle.Ready .handle ∧ handle.mdu.mode = .auto ∧ { handle with mdu.mode := .eco }.mdu.mode = .eco ∧
      { handle with mdu.mode := .boost }.mdu.mode = .boost ∧ handle.tiu.level = 0 ∧
      handle.settings.handle.vFloor ≤ handle.hb.vbus ∧ handle.has .busLow = false) ∧
    ((h .off []).Runs .handle ∧ (h .on []).Runs .handle ∧ (h .on []).head.jamTimer.isSome = true ∧
      (h .jamOff []).Runs .handle ∧ (h .lockedOff []).Runs .handle) ∧
    ((past [0]).length < 2 ∧ 2 ≤ (past [0, 1]).length) ∧
    ({ handle with dsu.windowTimer := some 0 }.Runs .handle ∧ handle.dsu.deadTime = none ∧
      { handle with dsu.deadTime := some 0 }.dsu.deadTime.isSome = true) := by decide

theorem test_hyp_WindowExpiry :
    let s := fun (pin : Bool) (q k v : Nat) => { dirty with
      dsu := { dirty.dsu with count := 0, pinned := pin, quiet := q, pinnedCount := k, startSpeed := v }
      mdu.speed := 50001 }
    let f := withList [active .dirtSensorFault]
    let settled := fun t : State => t.dsu.disturbed = false ∧ (t.advance 0).mdu.speed ≤ t.dsu.startSpeed + 2000 ∧
      t.dsu.startSpeed ≤ (t.advance 0).mdu.speed + 2000
    (dirty.Runs .handle ∧ dirty.dsu.windowTimer.isSome = true ∧ dirty.has .dirtSensorFault = false) ∧
    (settled (s false 2398 0 48001) ∧ settled (s false 2399 0 52001) ∧ settled (s true 0 19 50001)) ∧
    (min 2400 (2398 + 1) < 2400 ∧ min 2400 (2399 + 1) = 2400 ∧ min 20 (18 + 1) < 20 ∧ min 20 (19 + 1) = 20) ∧
    (¬ settled (s false 0 0 48000) ∧ ¬ settled (s false 0 0 52002)) ∧
    ({ dirty with dsu.unsettled := 8 }.dsu.unsettled < 9 ∧ 9 ≤ { dirty with dsu.unsettled := 9 }.dsu.unsettled) ∧
    (dirty.mdu.mode = .auto ∧ dirty.dsu.boost < 1 ∧ { dirty with dsu.decay := 3 }.dsu.decay + 1 < 5 ∧
      5 ≤ { dirty with dsu.decay := 4 }.dsu.decay + 1 ∧ { dirty with mdu.mode := .eco }.mdu.mode ≠ .auto) ∧
    (dirty.mdu.motor = .run ∧ dirty.mdu.sCur = dirty.mdu.sTgt ∧ { dirty with mdu.sCur := 0 }.mdu.sCur ≠ dirty.mdu.sTgt ∧
      { dirty with mdu.motor := .ramp }.mdu.motor ≠ .run) ∧
    ((f dirty).Runs .handle ∧ (f dirty).has .dirtSensorFault = true ∧ settled (f (s false 0 0 50001)) ∧
      ¬ settled (f (s false 0 0 48000)) ∧ (f (s false 0 0 48000)).dsu.unsettled < 9) :=
  ⟨by decide, by decide, by decide, by decide, by decide, by decide, by decide, by decide⟩

/-- A window that moves B, and one that does not. -/
theorem test_hyp_WindowExpiry_boost :
    (∃ t, exec (.windowExpiry 0) dirty = .next t ∧ t.dsu.boost ≠ dirty.dsu.boost) ∧
    (∃ t, exec (.windowExpiry 0) { dirty with mdu.mode := .eco } = .next t ∧ t.dsu.boost = dirty.dsu.boost) :=
  ⟨⟨_, rfl, by decide⟩, ⟨_, rfl, by decide⟩⟩

theorem test_hyp_PackTimersAndGaugeButton :
    let s := { pack with
      cmu.sweepTimer := some 0
      tiu := { pack.tiu with displayTimer := some 0, gauge := ⟨1, true, true⟩ } }
    let g := { pack with path := { pack.path with graceTimer := some 0, field := .accept } }
    (s.Ready .pack ∧ s.cmu.sweepTimer.isSome = true ∧ s.tiu.displayTimer.isSome = true ∧ s.cmu.dsw ≠ .on ∧
      s.tiu.gauge.blinking = true ∧ pack.Ready .pack ∧ pack.tiu.gauge.blinking = false) ∧
    (g.Ready .pack ∧ g.path.graceTimer.isSome = true ∧ g.pv.dock.state = .absent ∧ g.path.field = .accept) ∧
    { g with pv.dock.state := .fresh }.pv.dock.state ≠ .absent := by decide

theorem test_hyp_SweepCompletionReadings :
    let s := { pack with cmu.sweeping := true, cmu.balance := [1, 2, 3], cmu.current := 501 }
    s.Ready .pack ∧ s.cmu.sweeping = true ∧ (List.replicate 7 3500).length = s.settings.pack.cellCount ∧
    s.cmu.cells.length = s.settings.pack.cellCount ∧ s.cmu.balance.length ≤ 3 ∧ 500 < s.cmu.current ∧
    { s with cmu.current := 500 }.cmu.current ≤ 500 ∧ List.replicate 7 3500 ≠ [] ∧ s.path.field ≠ .accept := by decide

theorem test_hyp_SweepCompletionConditions :
    let s := { pack with cmu.sweeping := true, cmu.highCount := 2 }
    let p := s.settings.pack
    let v := fun x : Nat => x :: List.replicate 6 3500
    let wide := fun (d : Nat) (v : List Nat) => ∃ x ∈ v, ∃ y ∈ v, y + d < x
    let i := fun m : Timer => { s with cmu.imbalanceTimer := m, clock := 60000000 }
    (s.Ready .pack ∧ s.cmu.sweeping = true ∧ (v 0).length = p.cellCount ∧ s.ChargeSafe ∧ s.DischargeSafe) ∧
    (∃ x ∈ v 3000, x ≤ p.cellMin) ∧ (∃ x ∈ v 3299, x < p.vSoft) ∧
    (∀ x ∈ v 3350, p.vSoft + 50 ≤ x) ∧ (∃ x ∈ v 4250, p.cellMax + 50 ≤ x) ∧
    (2 ≤ s.cmu.highCount ∧ s.cmu.highCount ≤ 3 ∧ { s with cmu.highCount := 1 }.cmu.highCount < 2) ∧
    (∀ x ∈ v 4249, x < p.cellMax + 50) ∧
    ((∀ x ∈ v 4099, x + 100 < p.cellMax) ∧ ∃ x ∈ v 4100, p.cellMax ≤ x + 100) ∧
    ((∀ x ∈ v 3600, ∀ y ∈ v 3600, x ≤ y + 100) ∧ wide 100 (v 3601) ∧ ¬ wide 150 (v 3650) ∧ wide 150 (v 3651)) ∧
    ((withList [active .cellImbalance] s).has .cellImbalance = true ∧ s.has .cellImbalance = false ∧
      s.cmu.imbalanceTimer = none) ∧
    ((i (some 1)).cmu.imbalanceTimer = some 1 ∧ (i (some 1)).clock + 0 - 1 < 60000000 ∧
      60000000 ≤ (i (some 0)).clock + 0 - 0) :=
  ⟨by unfold State.ChargeSafe State.DischargeSafe; decide, by decide, by decide, by decide, by decide, by decide, by decide,
    by decide, by decide, by decide, by decide⟩

/-- CELL_LOW that becomes LATCHED, stays, and is released at 3201 mV under a charge of 100 mA. -/
theorem test_hyp_SweepCompletionConditions_cellLow :
    let s := withList [active .cellLow] { pack with
      cmu := { pack.cmu with sweeping := true, csw := true, current := -100 }, path.field := .accept }
    let p := s.settings.pack
    let v := fun m : Nat => m :: List.replicate 6 3500
    (s.Ready .pack ∧ s.ChargeSafe ∧ s.DischargeSafe ∧ (v 3201).length = p.cellCount ∧ s.cdu = [⟨.cellLow, 0, 1, .active⟩]) ∧
    ((∀ x ∈ v 3201, 3201 ≤ x) ∧ 0 < voltageFactor 3201 p.cellMin p.vSoft ∧ p.cellMin + 200 < 3201 ∧
      ¬ p.cellMin + 200 < 3200 ∧ (∀ x ∈ v 3201, x < p.cellMax + 50)) ∧
    (s.path.field = .accept ∧ 100 ≤ (-s.cmu.current).toNat ∧ s.chargeHeld = false ∧ s.path.fullTimer = none) ∧
    ((-{ s with cmu.current := -99 }.cmu.current).toNat < 100 ∧ { s with path.field := .want }.path.field ≠ .accept ∧
      0 < voltageFactor 3200 p.cellMin p.vSoft) :=
  ⟨by unfold State.ChargeSafe State.DischargeSafe; decide, by decide, by decide, by decide⟩

theorem test_hyp_FullDecisionAndEmptyAnchor :
    let d : DockStatus := { offer with run := 3, conv := 2 }
    let s := { pack with
      clock := 30000000, cmu := { pack.cmu with sweeping := true, csw := true, current := -99 }, pb.temp := 25
      path := { pack.path with field := .accept, fullTimer := some 0 }, pv.dock := entry .fresh (some d) }
    let v := List.replicate 7 4180
    (s.Ready .pack ∧ s.cmu.sweeping = true ∧ s.cdu = [] ∧ v.length = s.settings.pack.cellCount ∧ v ≠ []) ∧
    (s.cmu.csw = true ∧ s.path.field = .accept ∧ s.pv.dock.stored = some d ∧ d.run = 3 ∧ d.conv = 2) ∧
    ((-s.cmu.current).toNat < s.settings.pack.iTerm ∧ (∃ x ∈ v, s.settings.pack.cellMax ≤ x + 20) ∧
      (∀ x ∈ v, x < s.settings.pack.cellMax + 50) ∧ (∀ x ∈ v, s.settings.pack.vSoft ≤ x)) ∧
    (s.path.fullTimer = some 0 ∧ 30000000 ≤ s.clock + 0 - 0) ∧
    0 < s.settings.pack.maxCharge * chargeFactor s.pb.temp s.settings.pack.tChgLow s.settings.pack.tChgHigh / 256 :=
  ⟨by decide, by decide, by decide, by decide, by decide⟩

theorem test_hyp_FullDecisionAndEmptyAnchor_empty :
    let s := { pack with cmu.sweeping := true }
    let v := 3299 :: List.replicate 6 3500
    (s.Ready .pack ∧ s.cmu.sweeping = true ∧ s.cdu = [] ∧ v.length = s.settings.pack.cellCount ∧
      s.path.field ≠ .accept ∧ s.gauge.warnArmed = true) ∧
    ((∃ x ∈ v, x < s.settings.pack.vSoft) ∧ ∀ x ∈ v, x < s.settings.pack.cellMax + 50) ∧
    (s.gauge.learnArmed = false ∧ { s with gauge.learnArmed := true }.gauge.learnArmed = true) :=
  ⟨by decide, by decide, by decide⟩

theorem test_hyp_CurrentSample :
    let z := asleep pack
    (pack.Runs .pack ∧ pack.has .short = false ∧ pack.ssc.doze = .awake) ∧
    (0 ≤ pack.gauge.frac - 0 ∧ pack.gauge.frac - (-3599999) < 3600000 ∧ pack.gauge.frac - 1 < 0 ∧
      3600000 ≤ pack.gauge.frac - (-3600000)) ∧
    (z.Runs .pack ∧ z.has .short = false ∧ z.ssc.doze ≠ .awake ∧ (-199 : Int).natAbs < 200 ∧ 200 ≤ (-200 : Int).natAbs) ∧
    (min 65535 ({ pack with gauge.dCyc := 3998 }.gauge.dCyc + 1) < pack.gauge.full ∧
      pack.gauge.full ≤ min 65535 ({ pack with gauge.dCyc := 3999 }.gauge.dCyc + 1)) := by decide

theorem test_hyp_DischargeSwitchEvents :
    let s := fun d : Dsw => { pack with cmu.dsw := d, cmu.overdrawTimer := some 0, cmu.recoveryTimer := some 0 }
    let o := withList [active .overdraw] (s .off)
    let low := withList [active .cellLow] { s .cutPending with
      path.field := .accept, cmu.vmin := 3201, cmu.current := -99 }
    ((s .on).Ready .pack ∧ (s .on).cmu.overdrawTimer.isSome = true ∧ (s .on).cdu = [] ∧ (s .on).cmu.dsw ≠ .off) ∧
    ((s .cutPending).Ready .pack ∧ (s .cutPending).cmu.swept = false ∧ (s .cutPending).has .cellLow = false) ∧
    (low.Ready .pack ∧ low.cmu.dsw = .cutPending ∧ low.has .cellLow = true ∧ ¬ 100 ≤ (-low.cmu.current).toNat) ∧
    (o.Ready .pack ∧ o.cmu.recoveryTimer.isSome = true ∧ o.cdu = [⟨.overdraw, 0, 1, .active⟩] ∧ o.cmu.swept = false ∧
      o.cmu.dsw = .off ∧ 0 < voltageFactor 3500 o.settings.pack.cellMin o.settings.pack.vSoft) := by decide

/-- A PACK with a DOCK entry of the peer's tag, FRESH, in ACCEPT with run 0 noted. -/
def charging : State :=
  { pack with path := { pack.path with field := .accept, notedRun := some 0 }, pv.dock := entry .fresh (some offer) }

theorem test_hyp_ChargeOverrunAndShort :
    let s := { pack with cmu.sweeping := true, cmu.current := -100, cmu.cswOpenedAt := 0, cmu.currentAt := 10000 }
    let a := fun st : Freshness => { pack with pv.publishTimer := some 0, pv.dock := { entry st (some offer) with age := 39 } }
    let excess := fun n : Half => (n + charging.path.baseAllowance - charging.path.allowance).toNat
    (s.Ready .pack ∧ s.cmu.sweeping = true ∧ s.cmu.csw = false ∧ s.path.field ≠ .accept ∧
      s.cmu.cswOpenedAt + 10000 ≤ s.cmu.currentAt ∧ 100 ≤ (-s.cmu.current).toNat) ∧
    ((-{ s with cmu.current := -99 }.cmu.current).toNat < 100 ∧
      { s with cmu.currentAt := 9999 }.cmu.currentAt < s.cmu.cswOpenedAt + 10000) ∧
    (charging.Ready .pack ∧ charging.has .lineStuck = false ∧ charging.pv.dock.tag = some peer.tag ∧
      charging.pv.dock.lastSeq = some 2 ∧ 2 ≠ peer.seq ∧ peer.doze = false ∧ charging.pv.dock.state = .fresh) ∧
    (charging.path.field = .accept ∧ charging.path.notedRun = some offer.runNumber ∧
      charging.path.notedRun ≠ some { offer with runNumber := 1 }.runNumber ∧ charging.has .chargeOverrun = false) ∧
    (excess 21 = 21 ∧ excess 20 < 21 ∧ excess 32767 = 32767 ∧ 32767 < excess 32768) ∧
    ((a .lost).Ready .pack ∧ 39 ≤ (a .lost).pv.dock.age ∧ (a .stale).pv.dock.state = .stale) :=
  ⟨by decide, by decide, by decide, by decide, by decide, by decide⟩

theorem test_hyp_ChargeOverrunAndShort_latched :
    let l := fun c : Code => withList [⟨c, 0, 1, .latched⟩] pack
    let w := withList [⟨.short, 0, 1, .latched⟩] wanting
    ((l .chargeOverrun).ListOk ∧ hasLatched (l .chargeOverrun).cdu .chargeOverrun = true ∧
      hasActive [active .chargeOverrun] .chargeOverrun = true) ∧
    (pack.settings.pack.shortThreshold * 100 ≤ (60000 : Int).toNat ∧
      (59999 : Int).toNat < pack.settings.pack.shortThreshold * 100) ∧
    (w.Ready .pack ∧ w.ListOk ∧ w.pv.dock.tag = some peer.tag ∧ w.pv.dock.lastSeq = some 2 ∧ w.pv.dock.state = .fresh ∧
      w.path.field = .want ∧ hasLatched w.cdu .short = true ∧ w.cmu.swept = false) :=
  ⟨by unfold State.ListOk; decide, by decide, by unfold State.ListOk; decide⟩

theorem test_hyp_PathFieldAndGrants :
    let s := fun (f : PathField) (st : Freshness) => { pack with path := { pack.path with field := f }, pv.dock.state := st }
    let c := fun (f : PathField) (n : Nat) => { s f .fresh with cmu.swept := true, pb.chargeLimit := n }
    let p := pack.settings.pack
    let f := fun x : Int => chargeFactor (max (-40) (min 125 x)) p.tChgLow p.tChgHigh
    ((s .accept .fresh).path.field = .accept ∧ (s .none .dozing).path.field ≠ .want ∧
      { s .none .dozing with pb.chargeLimit := 1 }.makeRestingChoice.path.field = .want ∧
      (s .none .fresh).publishes = true ∧ (s .none .fresh).makeRestingChoice.path.field = .refuse) ∧
    ((c .accept 1).Ready .pack ∧ (c .accept 1).cmu.swept = true ∧ 0 < (c .accept 1).pb.chargeLimit ∧ f (-1) = 0) ∧
    ((c .refuse 0).Ready .pack ∧ (c .refuse 0).pb.chargeLimit = 0 ∧ 0 < p.maxCharge * f 25 / 256 ∧
      (c .refuse 0).chargeHeld = false ∧ max (-40) (min 125 25) < p.tHot2 ∧ (c .refuse 0).pv.dock.state = .fresh) :=
  ⟨by decide, by decide, by decide⟩

theorem test_hyp_PathFieldAndGrants_steps :
    let s := { charging with
      gauge := { charging.gauge with qRem := 3800 }, path := { charging.path with fullFlag := true } }
    let soc := fun q : Nat => min 200 (200 * q / s.gauge.full)
    let g := fun (a r : Half) => { charging with path := { charging.path with allowance := a, received := r } }
    let granted := fun t : State => (t.path.allowance - t.path.baseAllowance).toNat
    let taken := fun t : State => (t.path.received + 1 - t.path.baseReceived).toNat
    let step := charging.settings.pack.grantStep
    (s.Ready .pack ∧ s.gauge.frac - 1 < 0 ∧ s.path.fullFlag = true ∧ 190 ≤ soc s.gauge.qRem ∧
      soc (s.gauge.qRem - 1) < 190 ∧ 190 ≤ soc (3801 - 1)) ∧
    (3600000 ≤ charging.gauge.frac - (-3600000) ∧ charging.path.notedRun.isSome = true ∧ pack.path.notedRun = none) ∧
    (step = 100 ∧ taken (g 100 49) + step / 2 ≤ granted (g 100 49)) ∧
    (granted (g 100 50) < taken (g 100 50) + step / 2 ∧
      taken (g 100 50) + step / 2 ≤ granted (g 100 50) + step ∧ granted (g 100 50) + step < 65536) :=
  ⟨by decide, by decide, by decide, by decide⟩

theorem test_hyp_ContactSenseAndDockTimers :
    let u := { dock with ccu.run := .undocked }
    (u.Runs .dock ∧ u.ccu.run = .undocked ∧ u.pv.pack.state = .absent ∧ (asleep u).Runs .dock ∧
      (asleep u).ssc.doze ≠ .awake) ∧
    (workedDock.Runs .dock ∧ workedDock.ccu.run ≠ .undocked ∧ workedDock.ccu.run.running = true) ∧
    ∀ f, workedDock.liu.line ≠ .sending f :=
  ⟨by decide, by decide, notSending _ rfl⟩

theorem test_hyp_OutputSample :
    let p := { status with chargeLimit := 150, field := 2, allowance := 101 }
    let s := { workedDock with db.vCeil := 29400, ccu.frac := 3599000, pv.pack := entry .fresh (some p) }
    let i := { dock with ccu.conv := .off }
    (s.Ready .dock ∧ s.ccu.run ≠ .undocked ∧ s.ccu.run.running = true ∧ s.ccu.frac + 999 < 3600000 ∧
      29900 ≤ s.db.vCeil + 500 ∧ s.has .outputOvervoltage = false ∧ s.has .supplyWeak = false ∧
      s.settings.dock.supplyWeak ≤ 17000) ∧
    (i.Ready .dock ∧ i.ccu.run ≠ .undocked ∧ i.ccu.run.running = false ∧ i.ccu.conv = .off) ∧
    (3600000 ≤ s.ccu.frac + 1000 ∧ s.pv.pack.stored = some p ∧
      (p.allowance - s.ccu.baseline - (s.ccu.delivered + 1)).toNat < 32768) ∧
    ({ p with allowance := 1 }.allowance - s.ccu.baseline - (s.ccu.delivered + 1) = 0) ∧
    (s.db.vCeil + 500 < 29901 ∧ s.ccu.conv ≠ .off) ∧
    (s.ccu.run = .active ∧ 16999 < s.settings.dock.supplyWeak ∧ { s with ccu.weakCount := 19 }.ccu.weakCount = 19) ∧
    ((withList [active .supplyWeak] i).has .supplyWeak = true ∧ i.ccu.weakTimer = none) :=
  ⟨by decide, by decide, by decide, by decide, by decide, by decide, by decide⟩

theorem test_hyp_ContactSenseAndDockTimers_timers :
    let s := { workedDock with ccu.starveTimer := some 0, ccu.weakTimer := some 0 }
    s.Ready .dock ∧ s.ccu.starveTimer.isSome = true ∧ s.ccu.run = .active ∧ s.packField ≠ .want ∧
    s.ccu.weakTimer.isSome = true := by decide

theorem test_hyp_ToneAndBlinkSteps :
    let p := fun (k n : Nat) (ph : PlayPhase) => Playing.mk (.code .lineStuck) 8 k n ph
    let s := fun q : Playing => { handle with
      tiu := { handle.tiu with level := 8, playing := some q, volume := some 7, envelopeTimer := some 0 } }
    let b := { handle with
      pv := { handle.pv with pack := entry .stale (some status) }, tiu.gauge := ⟨3, true, true⟩ }
    ((s (p 0 0 .pulse)).Runs .handle ∧ (s (p 0 0 .pulse)).tiu.playing = some (p 0 0 .pulse) ∧
      (p 0 0 .pulse).item.pattern = some patternC) ∧
    ((p 0 0 .gap).pulse + 1 < patternC.pulses ∧ patternC.pulses ≤ (p 0 1 .gap).pulse + 1) ∧
    (∀ n, patternC.repeats = some n → (p 0 1 .gap).rep + 1 < n) ∧
    (∃ n, patternC.repeats = some n ∧ n ≤ (p 1 1 .gap).rep + 1) ∧
    ((s (p 1 1 .gap)).tiu.stack = [] ∧ (s (p 1 1 .gap)).tiu.waiting.all (·.removed) = true) ∧
    ({ (s (p 1 1 .gap)).tiu with stack := [⟨.code .brushJam, 7, false⟩] }.stack = ⟨.code .brushJam, 7, false⟩ :: [] ∧
      (Item.code .brushJam).pattern = some patternD) ∧
    ((s (p 0 0 .pulse)).tiu.envelopeTimer.isSome = true ∧ (s (p 0 0 .pulse)).tiu.volume = some 7) ∧
    (b.Runs .handle ∧ b.ssc.doze = .awake ∧ b.tiu.level = 0 ∧ (b.pv.pack.state = .stale ∨ b.pv.pack.state = .lost) ∧
      b.pv.pack.stored = some status ∧ b.tiu.gauge.blinking = true) :=
  ⟨by decide, by decide, fun n h => by cases h; decide, ⟨_, rfl, by decide⟩, by decide, by decide, by decide, by decide⟩

/-- The end of BRUSH_JAM's pattern with a pending entry above the stack's top, above no stack, and over a removed top. -/
theorem test_hyp_ToneAndBlinkSteps_end :
    let x : Waiting := ⟨.code .packLost, 6, false⟩
    let w : Waiting := ⟨.docked, 1, false⟩
    let s := fun (st pend : List Waiting) => { handle with
      tiu := { handle.tiu with
        level := 7, playing := some ⟨.code .brushJam, 7, 1, 1, .gap⟩, stack := st, waiting := pend } }
    ((s [w] [x]).Runs .handle ∧ (s [w] [x]).tiu.playing = some ⟨.code .brushJam, 7, 1, 1, .gap⟩ ∧
      (Item.code .brushJam).pattern = some patternD ∧ patternD.pulses ≤ 1 + 1) ∧
    (∃ n, patternD.repeats = some n ∧ n ≤ 1 + 1) ∧
    ((s [w] [x]).tiu.waiting.filter (fun y => !y.removed) = [x] ∧ ∀ y, (s [w] [x]).tiu.stack.head? = some y → y.level < x.level) ∧
    ((s [] [w]).tiu.waiting.filter (fun y => !y.removed) = [w] ∧ ∀ y, (s [] [w]).tiu.stack.head? = some y → y.level < w.level) ∧
    ((s [{ x with removed := true }, w] []).tiu.stack = [{ x with removed := true }, w] ∧ w.removed = false ∧
      (s [] []).tiu.waiting.all (·.removed) = true ∧ w.item.pattern.isSome = true ∧ x.item.pattern.isSome = true) :=
  ⟨by decide, ⟨_, rfl, by decide⟩, ⟨by decide, (fun _ h => by cases h; decide)⟩,
    ⟨by decide, (fun _ h => nomatch h)⟩, by decide⟩

theorem test_hyp_OutputsAndIndicators :
    let s := fun q : Playing => { handle with tiu := { handle.tiu with level := 8, playing := some q, volume := some 7 } }
    let p := fun ph : PlayPhase => Playing.mk (.code .lineStuck) 8 0 0 ph
    let g := fun (d : State) (st : Freshness) => { d with pv.pack := entry st (some status) }
    (handle.power = .running ∧ handle.role = some .handle ∧ handle.settings.common.mute = false ∧
      { handle with settings.common.mute := true }.settings.common.mute = true) ∧
    ((s (p .pulse)).tiu.playing = some (p .pulse) ∧ (p .pulse).item.pattern = some patternC ∧
      (s (p .pulse)).tiu.volume = some 7 ∧ (p .gap).phase ≠ .pulse ∧ handle.tiu.playing = none) ∧
    (State.reset.power ≠ .running ∧ 1 ≤ (⟨3200, 1⟩ : Wave).volume ∧ (⟨3200, 8⟩ : Wave).volume ≤ 8) ∧
    ((asleep handle).Runs .handle ∧ (g handle .fresh).Runs .handle ∧ (g handle .lost).Runs .handle ∧ pack.Runs .pack ∧
      dock.Runs .dock) ∧
    ((onLine .pulsing pack).power = .running ∧ (onLine .pulsing pack).liu.line = .pulsing ∧
      (onLine .quiet pack).power = .running ∧ (onLine .quiet pack).liu.line ≠ .pulsing ∧
      (onLine (.sending ⟨.state, .packStatus status, false, false, 0⟩) pack).power = .running) ∧
    (∃ t, exec (.clickTimerExpiry 0) (g handle .fresh) = .next t ∧ t.ssc.doze = .awake ∧ t.tiu.level = 0 ∧
      t.pv.pack.state = .fresh ∧ t.pv.pack.stored = some status) ∧
    (∃ t, exec (.clickTimerExpiry 0) (g handle .lost) = .next t ∧ t.ssc.doze = .awake ∧ t.tiu.level = 0 ∧
      t.pv.pack.state = .lost ∧ t.pv.pack.stored = some status) ∧
    (∃ t, exec (.gaugePress 0) pack = .next t ∧ t.tiu.displayTimer.isSome = true) ∧
    (∃ t, exec (.gaugeDisplayExpiry 0) pack = .next t ∧ t.tiu.displayTimer = none) :=
  ⟨by decide, by decide, by decide, by decide, by decide, ⟨_, rfl, rfl, rfl, rfl, rfl⟩, ⟨_, rfl, rfl, rfl, rfl, rfl⟩, ⟨_, rfl, rfl⟩,
    ⟨_, rfl, rfl⟩⟩

theorem test_hyp_StepKeepsListOk :
    let s := { withList [active .handleHot] handle with pending := [.lineStuck 0] }
    s.ListOk ∧ ∃ t, step s = .next t :=
  ⟨by unfold State.ListOk; decide, _, rfl⟩

theorem test_hyp_StepKeepsSwitchesSafe :
    pack.ChargeSafe ∧ pack.DischargeSafe ∧ ∃ t, step { pack with pending := [.shortTrip 0] } = .next t :=
  ⟨by unfold State.ChargeSafe; decide, by unfold State.DischargeSafe; decide, _, rfl⟩

theorem test_hyp_StepKeepsDockSafe :
    let s := { workedDock with pv.pack := entry .fresh (some { status with chargeLimit := 150, field := 2, allowance := 100 }) }
    s.ConverterSafe ∧ s.CreditSafe ∧ s.CreditFormed ∧ s.ccu.run.running = true ∧ s.ccu.conv = .cc ∧
    ∃ t, step { s with pending := [.csFall 0] } = .next t :=
  ⟨by unfold State.ConverterSafe; decide, by unfold State.CreditSafe; decide, fun _ _ p h => by cases h; decide,
    by decide, by decide, _, rfl⟩

theorem test_hyp_StepKeepsBounds :
    pack.Bounded ∧ dirty.DirtOk ∧ ∃ t, step { dirty with pending := [.windowExpiry 0] } = .next t :=
  ⟨by unfold State.Bounded; decide, by unfold State.DirtOk; decide, _, rfl⟩

theorem test_hyp_StepKeepsToneSafe :
    let s := { handle with
      pending := [.patternStep 0]
      tiu := { level := 7, playing := some ⟨.code .brushJam, 7, 0, 0, .pulse⟩, stack := [⟨.code .packLost, 6, false⟩] } }
    s.ToneSafe ∧ ∃ t, step s = .next t := by
  refine ⟨⟨?_, ?_, ?_⟩, _, rfl⟩
  · intro p h
    cases h
    decide
  · intro h
    cases h
  · unfold Waiting.Ok
    decide


end Sys2Proof.Tests
end

section
/-! The factors of the budgets (R26, R27, R39) as flat tables of cases, and where the figures of one computation come
to stand: at a PACK through `packNumbers`, at a DOCK through `dockCompute`. -/

namespace Sys2Proof.Machine

/-! ### The shared operations keep the figures of the budgets -/

@[simp] theorem State.requestState_pb (u : Bool) (s : State) : (s.requestState u).pb = s.pb := by
  rw [State.requestState_frame]
@[simp] theorem State.requestState_db (u : Bool) (s : State) : (s.requestState u).db = s.db := by
  rw [State.requestState_frame]
@[simp] theorem State.raiseRec_pb (c : Code) (s : State) : (s.raiseRec c).pb = s.pb := by
  rw [State.raiseRec_frame]
@[simp] theorem State.clearRec_pb (b : Block) (c : Code) (s : State) : (s.clearRec b c).pb = s.pb := by
  rw [State.clearRec_frame]

/-! ### The factors -/

/-- A choice within a choice, as three cases taken in order: the form in which the rules write their tables. -/
theorem ite_ite_eq_cases {α : Type} {p q r : Prop} [Decidable p] [Decidable q] [Decidable r] (hr : ¬ q ↔ r)
    (x y z : α) :
    (if p then (if q then x else y) else z) = if p ∧ q then x else if p ∧ r then y else z := by
  by_cases hp : p
  · by_cases hq : q
    · simp [hp, hq]
    · simp [hp, hq, hr.mp hq]
  · simp [hp]

/-- R39: the table of f_D. -/
theorem dockFactor_cases (t d1 d2 : Int) : dockFactor t d1 d2 =
    if d2 ≤ d1 ∧ t < d2 then 256 else if d2 ≤ d1 ∧ d2 ≤ t then 0 else if t ≤ d1 then 256 else if d2 ≤ t then 0
    else (256 * (d2 - t) / (d2 - d1)).toNat :=
  ite_ite_eq_cases Int.not_lt ..

/-- From T_cold up, f_T is f_D with T_hot1 and T_hot2 in the place of T_d1 and T_d2: the tables of R27 and R39. -/
theorem temperatureFactor_eq_dockFactor (t cold hot1 hot2 : Int) :
    temperatureFactor t cold hot1 hot2 = if t < cold then 64 else dockFactor t hot1 hot2 := rfl

/-- R26: the table of f_V. -/
theorem voltageFactor_cases (vmin cut soft : Nat) : voltageFactor vmin cut soft =
    if soft ≤ cut ∧ cut < vmin then 256 else if soft ≤ cut ∧ vmin ≤ cut then 0 else if soft ≤ vmin then 256
    else if vmin ≤ cut then 0 else 256 * (vmin - cut) / (soft - cut) :=
  ite_ite_eq_cases Nat.not_lt ..

/-! ### The figures of a computation -/

/-- R25: a computation after the first sweep leaves exactly its figures; CHARGE_TEMP_REFUSED and the urgent request
beside it change none of them. -/
theorem State.packNumbers_pb {s : State} (h : s.cmu.swept = true) : s.packNumbers.pb = s.packFigures := by
  rw [State.packNumbers, if_pos h]
  dsimp only
  split <;> split <;> simp only [State.requestState_pb, State.raiseRec_pb, State.clearRec_pb]

/-- R38: a computation leaves exactly its figures; the urgent request at a fall of the capability changes none of
them. -/
theorem State.dockCompute_db (period : Bool) (s : State) : (s.dockCompute period).db = s.dockFigures period := by
  rw [State.dockCompute]
  split
  · rw [State.requestState_db]
  · rfl

end Sys2Proof.Machine

namespace Sys2Proof.Settled

open Sys2Proof.Machine

/-- Settles O32: the table of f_D, and the figures a computation leaves. -/
theorem dockFactorAndCapability : Obligations.DockFactorAndCapability := by
  refine ⟨dockFactor_cases, rfl, rfl, rfl, fun period s => ?_⟩
  have hdb : (s.dockCompute period).db = s.dockFigures period := s.dockCompute_db period
  refine ⟨?_, ?_, rfl⟩
  · rw [hdb]; rfl
  · rw [hdb]; rfl

/-- Settles O31: f_T is its first line and then the table of f_D; f_V has its own table; the figures are those a
computation leaves. -/
theorem temperatureFactor : Obligations.TemperatureFactor := by
  refine ⟨fun s hs => ?fT, fun t cold hot1 hot2 => ?fTTable, voltageFactor_cases, fun _ _ _ => rfl,
    fun s hs => ?target, by decide, by decide, rfl, rfl, rfl, by decide, by decide, by decide⟩
  case fT => rw [State.packNumbers_pb hs]; rfl
  case fTTable => rw [temperatureFactor_eq_dockFactor, dockFactor_cases]
  case target =>
    rw [State.packNumbers_pb hs, Nat.mul_comm s.settings.pack.cellCount 50]
    rfl

end Sys2Proof.Settled
end

section
/-! The speed target (R51, R52): the raw speed of each mode, where the exclusion band places it, and that the edges of
the band are read nowhere in the setpoint's steps (R53) and the power limiter (R54). -/

namespace Sys2Proof.Machine

/-! ### The raw speed (R51) -/

theorem State.rawSpeed_eco {s : State} (h : s.mdu.mode = .eco) :
    s.rawSpeed = min 120000 (s.settings.handle.ecoSpeed * 100) := by
  rw [State.rawSpeed, h]

theorem State.rawSpeed_auto {s : State} (h : s.mdu.mode = .auto) :
    s.rawSpeed =
      min 120000 ((s.settings.handle.autoSpeedBase + s.settings.handle.autoSpeedStep * s.dsu.boost) * 100) := by
  rw [State.rawSpeed, h]

theorem State.rawSpeed_boost {s : State} (h : s.mdu.mode = .boost) :
    s.rawSpeed = min 120000 (s.settings.handle.boostSpeed * 100) := by
  rw [State.rawSpeed, h]

/-! ### The placement (R52) -/

section Placement

variable {base limit raw : Nat}

/-- A band whose base is above its limit has no inside. -/
theorem placeSpeed_of_limit_lt_base (h : limit < base) : placeSpeed base limit raw = raw :=
  if_neg fun ⟨hband, _, _⟩ => Nat.not_le.mpr h hband

theorem placeSpeed_of_outside (h : raw < base * 100 ∨ limit * 100 < raw) : placeSpeed base limit raw = raw :=
  if_neg fun ⟨_, hbase, hlimit⟩ => h.elim (Nat.not_lt.mpr hbase) (Nat.not_lt.mpr hlimit)

theorem placeSpeed_of_inside (hband : base ≤ limit) (hbase : base * 100 ≤ raw) (hlimit : raw ≤ limit * 100) :
    placeSpeed base limit raw =
      if raw - base * 100 < limit * 100 - raw then base * 100 - 100 else limit * 100 + 100 :=
  if_pos ⟨hband, hbase, hlimit⟩

/-- A raw speed in the band is placed 100 rpm beyond one of its edges. -/
theorem placeSpeed_below_or_above (hband : base ≤ limit) (hbase : base * 100 ≤ raw) (hlimit : raw ≤ limit * 100) :
    placeSpeed base limit raw = base * 100 - 100 ∨ placeSpeed base limit raw = limit * 100 + 100 := by
  rw [placeSpeed_of_inside hband hbase hlimit]
  exact ite_eq_or_eq ..

/-- With both edges in the range of the setting block (R174) the placement leaves the band and stays within 9,900 to
120,000 rpm. -/
theorem placeSpeed_outside_band (hbase100 : 100 ≤ base) (hlimit1199 : limit ≤ 1199) (hband : base ≤ limit)
    (hbase : base * 100 ≤ raw) (hlimit : raw ≤ limit * 100) :
    9900 ≤ placeSpeed base limit raw ∧ placeSpeed base limit raw ≤ 120000 ∧
      ¬ (base * 100 ≤ placeSpeed base limit raw ∧ placeSpeed base limit raw ≤ limit * 100) := by
  obtain hbelow | habove := placeSpeed_below_or_above hband hbase hlimit
  · rw [hbelow]; omega
  · rw [habove]; omega

end Placement

/-! ### The edges of the band as settings -/

/-- The state with other edges of the exclusion band. -/
def State.withBand (base limit : Nat) (s : State) : State :=
  { s with settings.handle.bandBase := base, settings.handle.bandLimit := limit }

/-- An effect that does not look at the edges of the band: it does the same whatever they are. -/
def BandBlind (f : State → State) : Prop :=
  ∀ (base limit : Nat) (s : State), f (s.withBand base limit) = (f s).withBand base limit

theorem State.advance_bandBlind (dt : Nat) : BandBlind (State.advance dt) := fun _ _ _ => rfl

theorem State.busSample_bandBlind (i : Nat) : BandBlind (State.busSample i) := fun _ _ _ => rfl

theorem State.setpointStep_bandBlind : BandBlind State.setpointStep := fun base limit s => by
  by_cases h : s.mdu.motor = .run
  · simp [State.setpointStep, State.withBand, h]
  · simp [State.setpointStep, State.withBand, h]

@[simp] theorem State.busSample_ssc (i : Nat) (s : State) : (s.busSample i).ssc = s.ssc := rfl

@[simp] theorem State.setpointStep_ssc (s : State) : s.setpointStep.ssc = s.ssc := by
  unfold State.setpointStep
  split <;> rfl

/-! ### Events of a HANDLE -/

theorem State.atHandle_of_role {s : State} (f : State → State) (h : s.role = some .handle) : s.atHandle f = f s :=
  if_pos (by simp [State.isRole, h])

/-- What ends an event leaves the motor drive alone. -/
theorem State.EndsAs.mdu_eq {u t : State} (h : u.EndsAs t) : t.mdu = u.mdu := by
  obtain ⟨ht, _⟩ := h
  rw [ht]

/-- An effect that makes no wake due leaves the motor drive of the event as it formed it. -/
theorem event_mdu {s : State} {f : State → State} (dt : Nat) (hs : s.Runs .handle)
    (hssc : ∀ u, (f u).ssc = u.ssc) :
    ∃ t, event dt (State.atHandle f) s = .next t ∧ t.mdu = (f (s.advance dt)).mdu := by
  have ⟨_, hrole, hasked⟩ := hs
  have hf : (s.advance dt).atHandle f = f (s.advance dt) := State.atHandle_of_role f hrole
  obtain ⟨t, ht, hends⟩ := event_endsAs dt (State.atHandle f) hs (by rw [hf, hssc]; exact hasked)
  exact ⟨t, ht, hends.mdu_eq.trans (by rw [hf])⟩

/-- An event whose effect does not look at the edges of the band forms the same motor drive whatever they are. -/
theorem BandBlind.event_mdu {f : State → State} {s : State} (hf : BandBlind f) (dt base limit : Nat)
    (hs : s.Runs .handle) (hssc : ∀ u, (f u).ssc = u.ssc) :
    ∃ t v, event dt (State.atHandle f) s = .next t ∧
      event dt (State.atHandle f) (s.withBand base limit) = .next v ∧ v.mdu = t.mdu := by
  obtain ⟨t, ht, htmdu⟩ := Machine.event_mdu dt hs hssc
  obtain ⟨v, hv, hvmdu⟩ := Machine.event_mdu (s := s.withBand base limit) dt hs hssc
  refine ⟨t, v, ht, hv, ?_⟩
  calc v.mdu = (f ((s.withBand base limit).advance dt)).mdu := hvmdu
    _ = ((f (s.advance dt)).withBand base limit).mdu := by rw [State.advance_bandBlind, hf]
    _ = t.mdu := htmdu.symm

theorem exec_setpointStepExpiry (dt : Nat) (s : State) :
    exec (.setpointStepExpiry dt) s = event dt (State.atHandle State.setpointStep) s := rfl

theorem exec_busCurrentSample (dt i : Nat) (s : State) :
    exec (.busCurrentSample dt i) s = event dt (State.atHandle (State.busSample i)) s := rfl

end Sys2Proof.Machine

namespace Sys2Proof.Settled

open Sys2Proof.Machine

/-- Settles O41: the raw speeds and the placement case by case; the setpoint's step and the power limiter are blind to
the edges of the band. -/
theorem speedTargetOutsideBand : Obligations.SpeedTargetOutsideBand := by
  refine ⟨fun _ => rfl, fun s => ⟨State.rawSpeed_eco, State.rawSpeed_auto, State.rawSpeed_boost⟩,
    fun base limit raw => ⟨placeSpeed_of_limit_lt_base, fun _ => placeSpeed_of_outside, ?below, ?above, ?bounds⟩,
    fun dt i base limit s hs => ⟨?setpoint, ?limiter⟩⟩
  case below =>
    intro hband hbase hlimit hnearer
    rw [placeSpeed_of_inside hband hbase hlimit, if_pos hnearer]
  case above =>
    intro hband hbase hlimit hnot
    rw [placeSpeed_of_inside hband hbase hlimit, if_neg (Nat.not_lt.mpr hnot)]
  case bounds =>
    intro hbase100 _ _ hlimit1199
    exact placeSpeed_outside_band hbase100 hlimit1199
  case setpoint =>
    simp only [exec_setpointStepExpiry]
    exact State.setpointStep_bandBlind.event_mdu dt base limit hs State.setpointStep_ssc
  case limiter =>
    simp only [exec_busCurrentSample]
    exact (State.busSample_bandBlind i).event_mdu dt base limit hs (State.busSample_ssc i)

end Sys2Proof.Settled
end
